-- ==== Sys2Proof/Word.lean ====
section
/-! DEFINITION. Widths of MCMC-CORE's values (00_scope R6) and the small fixed sets of names the spec gives: the operation
held in OP (R21), the composer's phase (R29), the Bridge States (R11) and the four bridges (R121). -/

namespace Sys2Proof

/-- A command word, format CMD16 (R90). -/
abbrev Word := BitVec 16

/-- A linear cell address, format ADDR8: y in bits 7:4, x in bits 3:0 (R96). -/
abbrev Addr := BitVec 8

/-- One coordinate of a cell (R6, `COORD_W`). -/
abbrev Coord := BitVec 4

/-- Two bits, one per bit-plane, bit `p` for plane `p`: the Enable Mask and a cell's value, format PLANE2 (R98). -/
abbrev Plane2 := BitVec 2

/-- A slot number of the pulse micro-program, format UPC5 (R100). -/
abbrev Upc := BitVec 5

/-- The operation being run, the register OP (R21). The type leaves out the reserved value 3 (V11). -/
inductive Op where
  | pulse
  | write
  | read
deriving DecidableEq, Repr, Inhabited

/-- The composer's place in an operation, the register PHASE (R29). -/
inductive Phase where
  | idle
  | p1
  | sample
  | p2
deriving DecidableEq, Repr, Inhabited

/-- The four Bridge States, in the source's order (R11): two inert, two conducting. -/
inductive BridgeState where
  | nca
  | cd1
  | ncb
  | cd2
deriving DecidableEq, Repr, Inhabited

/-- The four bridges (R121). -/
inductive Bridge where
  | x
  | y
  | inh0
  | inh1
deriving DecidableEq, Repr, Inhabited

end Sys2Proof
end

