-- ==== Sys2Proof/Syntax.lean ====
section
/-! DEFINITION. The instructions: one constructor per row of spec/opcode_table.json (30_encoding R108), three commands, the
reserved command word, the 17 slots of the pulse micro-program and the sample. -/

namespace Sys2Proof

inductive Instr where
  /-- PULSE: `pulse(address, direction, enable_mask, reset_latch)` (R92, R181). -/
  | pulse (addr : Addr) (dir : Bool) (mask : Plane2) (rl : Bool)
  /-- WRITE: `write(address, value)` (R93, R183). -/
  | write (addr : Addr) (value : Plane2)
  /-- READ: `read(address)` (R94, R186). -/
  | read (addr : Addr)
  /-- RESERVED_OP3: a command word whose `op` is 3 (R101). -/
  | reservedOp3
  /-- S0_AB: put the address on the bus (R151). -/
  | s0Ab
  /-- S1_W2: wait 2 quanta (R151). -/
  | s1W2
  /-- S2_LRF: deassert the latch-reset line when RL is true (R153). -/
  | s2Lrf
  /-- S3_BRX: drive the X-select bridge (R154). -/
  | s3Brx
  /-- S4_LRT: assert the latch-reset line (R155). -/
  | s4Lrt
  /-- S5_BRI0: drive Inhibit-0 when mask bit 0 is clear (R157). -/
  | s5Bri0
  /-- S6_BRI1: drive Inhibit-1 when mask bit 1 is clear (R157). -/
  | s6Bri1
  /-- S7_W1A: wait 1 quantum (R157). -/
  | s7W1a
  /-- S8_BRY: drive the Y-select bridge (R158). -/
  | s8Bry
  /-- S9_W10: wait 10 quanta (R158). -/
  | s9W10
  /-- S10_BRYOFF: return Y to no-conduction (R159). -/
  | s10BryOff
  /-- S11_W1B: wait 1 quantum (R159). -/
  | s11W1b
  /-- S12_BRI0OFF: return Inhibit-0 to no-conduction (R160). -/
  | s12Bri0Off
  /-- S13_BRI1OFF: return Inhibit-1 to no-conduction (R160). -/
  | s13Bri1Off
  /-- S14_BRXOFF: return X to no-conduction (R161). -/
  | s14BrxOff
  /-- S15_W5A: the first trailing wait (R162). -/
  | s15W5a
  /-- S16_W5B: the second trailing wait (R162). -/
  | s16W5b
  /-- SS: sample both sense inputs, between the two pulses of a READ (R124, R187). -/
  | ss
deriving DecidableEq, Repr

end Sys2Proof
end

