-- ==== Sys2Proof/WellFormed.lean ====
section
/-! DEFINITION. Which instructions and which command words are well formed. Every operand is a field of exactly its width
(R99), so no operand can be out of range (R200, R201 (a)); what is left to check is that the instruction has a meaning (R101)
and that a host's word is canonical (R102). -/

namespace Sys2Proof

/-- The spec gives the instruction a meaning: all but the reserved command word (R101). -/
def Instr.wf : Instr → Bool
  | .reservedOp3 => false
  | .pulse _ _ _ _ | .write _ _ | .read _ | .s0Ab | .s1W2 | .s2Lrf | .s3Brx | .s4Lrt | .s5Bri0 | .s6Bri1 | .s7W1a
  | .s8Bry | .s9W10 | .s10BryOff | .s11W1b | .s12Bri0Off | .s13Bri1Off | .s14BrxOff | .s15W5a | .s16W5b | .ss => true

/-- A conforming host's word: `op` is not 3 and every ignored bit is 0 (R90, R102): bits 15:14 of every word, bits 11:10 of a
WRITE, bits 11:8 of a READ. -/
def Word.canonical (w : Word) : Bool :=
  w &&& 0xC000#16 == 0#16 &&
    (w &&& 0x3000#16 == 0x0000#16
      || w &&& 0x3000#16 == 0x1000#16 && w &&& 0x0C00#16 == 0#16
      || w &&& 0x3000#16 == 0x2000#16 && w &&& 0x0F00#16 == 0#16)

end Sys2Proof
end

