-- ==== Sys2Proof/Decode.lean ====
section
/-! DEFINITION. The encodings of 30_encoding: command words CMD16 (R90 to R94, R101, R102), slot numbers UPC5 and the sample's
phase number PHASE2 (R100), decoded and encoded; the named numbers of OP, PHASE (R21, R29) and of a Bridge State (R95). -/

namespace Sys2Proof

/-- What the block is given to run, in the format it comes in (R90, R100): a command word on the port `cmd`, the slot number
in UPC, or the phase number in PHASE. The three are different registers of the block, so a slot number and a phase number of
the same value are different codes. -/
inductive Code where
  | cmd (w : Word)
  | slot (n : Upc)
  | phase (p : BitVec 2)
deriving DecidableEq, Repr

/-- Why a code names no instruction. -/
inductive DecodeError where
  /-- UPC is 17, the end marker of the micro-program: the pulse is over (R100, R150). -/
  | endMarker
  /-- UPC is above 17: no such slot (R28). -/
  | noSlot
  /-- PHASE is not SAMPLE: no micro-operation belongs to the phase (R100). -/
  | noPhaseOp
deriving DecidableEq, Repr

/-- Field `op`, bits 13:12 (R90). -/
def fieldOp (w : Word) : BitVec 2 := w.extractLsb' 12 2

/-- Field `rl`, bit 11 (R90). -/
def fieldRl (w : Word) : Bool := w.getLsbD 11

/-- Field `dir`, bit 10 (R90). -/
def fieldDir (w : Word) : Bool := w.getLsbD 10

/-- Field `val`, bits 9:8 (R90). -/
def fieldVal (w : Word) : Plane2 := w.extractLsb' 8 2

/-- Field `addr`, bits 7:0 (R90). -/
def fieldAddr (w : Word) : Addr := w.extractLsb' 0 8

/-- A command word read by its `op` field (R91 to R94, R101). Every other bit an operation does not use is ignored (R102). -/
def decodeCmd (w : Word) : Instr :=
  match (fieldOp w).toNat with
  | 0 => .pulse (fieldAddr w) (fieldDir w) (fieldVal w) (fieldRl w)
  | 1 => .write (fieldAddr w) (fieldVal w)
  | 2 => .read (fieldAddr w)
  | _ => .reservedOp3

/-- The slot with the number `n` (R100, R150). -/
def decodeSlot (n : Upc) : Except DecodeError Instr :=
  match n.toNat with
  | 0 => .ok .s0Ab
  | 1 => .ok .s1W2
  | 2 => .ok .s2Lrf
  | 3 => .ok .s3Brx
  | 4 => .ok .s4Lrt
  | 5 => .ok .s5Bri0
  | 6 => .ok .s6Bri1
  | 7 => .ok .s7W1a
  | 8 => .ok .s8Bry
  | 9 => .ok .s9W10
  | 10 => .ok .s10BryOff
  | 11 => .ok .s11W1b
  | 12 => .ok .s12Bri0Off
  | 13 => .ok .s13Bri1Off
  | 14 => .ok .s14BrxOff
  | 15 => .ok .s15W5a
  | 16 => .ok .s16W5b
  | 17 => .error .endMarker
  | _ => .error .noSlot

/-- The micro-operation of a phase: `SS` in phase SAMPLE, number 2 (R100). -/
def decodePhase (p : BitVec 2) : Except DecodeError Instr :=
  match p.toNat with
  | 2 => .ok .ss
  | _ => .error .noPhaseOp

/-- The decoder, total on every code. -/
def decode : Code → Except DecodeError Instr
  | .cmd w => .ok (decodeCmd w)
  | .slot n => decodeSlot n
  | .phase p => decodePhase p

/-- A command word from its fields, ignored bits 15:14 zero (R90, R102). -/
def packCmd (op : BitVec 2) (rl dir : Bool) (val : Plane2) (addr : Addr) : Word :=
  0#2 ++ op ++ BitVec.ofBool rl ++ BitVec.ofBool dir ++ val ++ addr

/-- The canonical encoder: every ignored bit is zero (R102). -/
def encode : Instr → Code
  | .pulse a d m r => .cmd (packCmd 0#2 r d m a)
  | .write a v => .cmd (packCmd 1#2 false false v a)
  | .read a => .cmd (packCmd 2#2 false false 0#2 a)
  | .reservedOp3 => .cmd (packCmd 3#2 false false 0#2 0#8)
  | .s0Ab => .slot 0#5
  | .s1W2 => .slot 1#5
  | .s2Lrf => .slot 2#5
  | .s3Brx => .slot 3#5
  | .s4Lrt => .slot 4#5
  | .s5Bri0 => .slot 5#5
  | .s6Bri1 => .slot 6#5
  | .s7W1a => .slot 7#5
  | .s8Bry => .slot 8#5
  | .s9W10 => .slot 9#5
  | .s10BryOff => .slot 10#5
  | .s11W1b => .slot 11#5
  | .s12Bri0Off => .slot 12#5
  | .s13Bri1Off => .slot 13#5
  | .s14BrxOff => .slot 14#5
  | .s15W5a => .slot 15#5
  | .s16W5b => .slot 16#5
  | .ss => .phase 2#2

/-- The code meant by `nbits` bits `w` of spec/opcode_table.json: 16 bits are a CMD16 word, 2 bits a PHASE2 number, any other
count a UPC5 number in its low 5 bits. A whole byte is read as a slot number, so a PHASE2 row given as a whole byte reads as
the slot of the same number (log entry 1). -/
def codeOfTable (nbits w : Nat) : Code :=
  match nbits with
  | 16 => .cmd (BitVec.ofNat 16 w)
  | 2 => .phase (BitVec.ofNat 2 w)
  | _ => .slot (BitVec.ofNat 5 w)

/-- The decoder on a word of spec/opcode_table.json. -/
def decodeTableWord (nbits w : Nat) : Option Instr :=
  match decode (codeOfTable nbits w) with
  | .ok i => some i
  | .error _ => none

/-- The row of spec/opcode_table.json a code must lie in: the table's `match` and `mask` of an instruction's row, in the
row's own format. -/
def inRow (i : Instr) : Code → Bool
  | .cmd w =>
    match i with
    | .pulse _ _ _ _ => w &&& 0x3000#16 == 0x0000#16
    | .write _ _ => w &&& 0x3000#16 == 0x1000#16
    | .read _ => w &&& 0x3000#16 == 0x2000#16
    | .reservedOp3 => w &&& 0x3000#16 == 0x3000#16
    | _ => false
  | .slot n =>
    match i with
    | .s0Ab => n == 0x00#5
    | .s1W2 => n == 0x01#5
    | .s2Lrf => n == 0x02#5
    | .s3Brx => n == 0x03#5
    | .s4Lrt => n == 0x04#5
    | .s5Bri0 => n == 0x05#5
    | .s6Bri1 => n == 0x06#5
    | .s7W1a => n == 0x07#5
    | .s8Bry => n == 0x08#5
    | .s9W10 => n == 0x09#5
    | .s10BryOff => n == 0x0A#5
    | .s11W1b => n == 0x0B#5
    | .s12Bri0Off => n == 0x0C#5
    | .s13Bri1Off => n == 0x0D#5
    | .s14BrxOff => n == 0x0E#5
    | .s15W5a => n == 0x0F#5
    | .s16W5b => n == 0x10#5
    | _ => false
  | .phase p =>
    match i with
    | .ss => p == 0x2#2
    | _ => false

/-- The number of an operation in OP, that of the command word's `op` field (R21, R91). -/
def Op.code : Op → BitVec 2
  | .pulse => 0#2
  | .write => 1#2
  | .read => 2#2

/-- The number of a phase in PHASE (R29). -/
def Phase.code : Phase → BitVec 2
  | .idle => 0#2
  | .p1 => 1#2
  | .sample => 2#2
  | .p2 => 3#2

/-- The phase with a number (R29). -/
def Phase.ofCode (p : BitVec 2) : Phase :=
  match p.toNat with
  | 0 => .idle
  | 1 => .p1
  | 2 => .sample
  | _ => .p2

/-- The two lines of a bridge, format BRIDGE2: bit 0 the enable line, bit 1 the direction line (R95, D5). -/
def BridgeState.bits : BridgeState → BitVec 2
  | .nca => 0b00#2
  | .cd1 => 0b01#2
  | .ncb => 0b10#2
  | .cd2 => 0b11#2

/-- The Bridge State with given line levels; all four values are legal (R36, R95). -/
def BridgeState.ofBits (b : BitVec 2) : BridgeState :=
  match b.toNat with
  | 0 => .nca
  | 1 => .cd1
  | 2 => .ncb
  | _ => .cd2

end Sys2Proof
end

