-- ==== Sys2Proof/Config.lean ====
section
/-! DEFINITION. What an implementation fixes (00_scope, parameter table after R7) and the free values: constants with no
body, of which nothing can be proved, for what the spec leaves at "any value" (93_implementation_defined). -/

namespace Sys2Proof

/-- The parameter OFF_ENC: the inert encoding the sequencer writes on a return to no-conduction (D6). -/
inductive OffEnc where
  | nca
  | ncb
deriving DecidableEq, Repr

/-- The parameter ENV (D18): `any` is ENV_ANY, where a sample returns any two bits; `ideal` is ENV_IDEAL. -/
inductive Env where
  | any
  | ideal
deriving DecidableEq, Repr

/-- The parameters that have a default in the spec. They are fixed before execution: no step changes them. -/
structure Params where
  /-- OFF_ENC (D6, U6). -/
  offEnc : OffEnc
  /-- LRST_TRUE_LEVEL: the line level that `set_latch_reset(true)` drives, `true` for high (D8, V9). -/
  lrstTrueLevel : Bool
  /-- ENV (D18, V10). -/
  env : Env
  /-- QUANTUM_NS: the length of a quantum in nanoseconds (R126, U5). -/
  quantumNs : Nat
deriving DecidableEq, Repr

/-- The spec's defaults (00_scope, parameter table after R7). ENV takes the default for simulation: DESIGN CHOICE, unsafe,
log entry 7. -/
def Params.default : Params :=
  { offEnc := .nca, lrstTrueLevel := true, env := .ideal, quantumNs := 100 }

/-- QUANTUM_CYCLES, clock cycles per quantum: OPEN, the spec gives no number (D16, U4). -/
opaque Config.quantumCycles : Nat

/-- What the cell at an address holds at power-on (R49, U11): any value. -/
opaque Config.powerOnCell : Addr → Plane2

/-- What the cell at an address holds under ENV_ANY, after so many events and so many free values drawn (R79, U1): any value. -/
opaque Config.anyCell : Nat → Nat → Addr → Plane2

/-- Free values, the `n`-th draw: an unspecified pair of bits (R49, R77, V3, V7, U12). -/
opaque Config.freePair : Nat → Plane2

/-- Free values: an unspecified single bit (V3). -/
opaque Config.freeBit : Nat → Bool

/-- Free values: an unspecified address (V3). -/
opaque Config.freeAddr : Nat → Addr

/-- Free values: an unspecified content of OP (V3). -/
opaque Config.freeOp : Nat → Op

end Sys2Proof
end

