-- ==== Sys2Proof/Machine/State.lean ====
section
/-! DEFINITION. The machine's state: everything 10_state.md gives the block, the environment of 20_memory.md section 5 (the
core plane and the sense latch), the inputs of R50 and the event trace of R9. Plain data only. The state after reset, the
outcomes' reasons, and the plain updates of one field. -/

namespace Sys2Proof.Machine

/-- The event alphabet (R9). -/
inductive Event where
  /-- `AB(b)`: write the address bus (R122). -/
  | ab (b : Addr)
  /-- `BR(k, s)`: set a bridge (R121). -/
  | br (k : Bridge) (v : BridgeState)
  /-- `LR(v)`: set the latch-reset line (R123). -/
  | lr (v : Bool)
  /-- `W(n)`: wait at least `n` quanta (R120). -/
  | w (n : Nat)
  /-- `SS`: sample both sense inputs (R124). -/
  | ss
  /-- `DBG`: strobe the debug line (R125). -/
  | dbg
deriving DecidableEq, Repr

/-- The core plane as a list of cells in rising order of address. A cell that is not listed has not been written since
power-on (R49). The low two bits of a listed byte are the cell's value. -/
abbrev Memory := List Host.Cell

structure State where
  /-- The parameters of the implementation, fixed before execution (R6, R7). -/
  params : Params
  /-- OP (R21). -/
  op : Op
  /-- ADDR (R22). -/
  addr : Addr
  /-- DIR (R23). -/
  dir : Bool
  /-- MASK (R24). -/
  mask : Plane2
  /-- RL (R25). -/
  rl : Bool
  /-- VALUE (R26). -/
  value : Plane2
  /-- RDATA (R27). -/
  rdata : Plane2
  /-- UPC (R28). -/
  upc : Upc
  /-- PHASE (R29). -/
  phase : Phase
  /-- XBR (R36). -/
  xbr : BridgeState
  /-- YBR (R37). -/
  ybr : BridgeState
  /-- INH0 (R38). -/
  inh0 : BridgeState
  /-- INH1 (R39). -/
  inh1 : BridgeState
  /-- ABUS (R40). -/
  abus : Addr
  /-- LRST: the boolean last given to `set_latch_reset` (R41). -/
  lrst : Bool
  /-- DBGL (R42). -/
  dbgl : Bool
  /-- QCNT: the quantum counter (R47 (b)). Its width, and that it counts down, an implementation chooses (R47 (b), R207): here
  it is a natural number, which no count overflows, and it counts down. DESIGN CHOICE, log entry 29. -/
  qcnt : Nat
  /-- The output port `done` (R50, R191). -/
  done : Bool
  /-- The core plane of ENV_IDEAL (R70, D18). Under ENV_ANY a cell holds any value (`State.memRead`; R79, U1). -/
  cells : Memory
  /-- The sense latch of ENV_IDEAL (R47 (a), R76, D18). Under ENV_ANY a sample does not read it (R77). -/
  latch : Plane2
  /-- The model's own: R76 fixes what the latch holds (V7). -/
  latchFixed : Bool
  /-- The events emitted so far, oldest first (R9, R10). -/
  trace : List Event
  /-- The levels of the input `rst` at the coming steps, head first; low when none is listed (R50, R220). -/
  rstIn : List Bool
  /-- The command words the host has still to send; the head is on the port `cmd` (R50, R104). -/
  cmdIn : List Word
  /-- The levels of the sense inputs at the coming samples under ENV_ANY (R50, R77). -/
  senseIn : List Plane2
  /-- The model's own: how many free values have been drawn. -/
  freeCount : Nat
deriving DecidableEq, Repr

/-- The spec has no fault: "its fault type is empty" (R200). -/
inductive Fault where
deriving DecidableEq, Repr

/-- Why the model gives no meaning. -/
inductive Refusal where
  /-- Raised by no meaning: an arm of exec whose instruction has none yet. Safe. -/
  | notModelled (mnemonic : String)
  /-- Raised by a command word whose `op` is 3: "A model refuses a command word whose `op` is 3" (R101). Safe. -/
  | reservedOp
deriving DecidableEq, Repr

/-- The machine right after reset: PHASE, UPC, the output lines and QCNT as R48 gives them. The holding registers are
unspecified there (R48): they are zero here, DESIGN CHOICE, unsafe, log entry 9. -/
def State.reset : State :=
  { params := Params.default
    op := .pulse
    addr := 0#8
    dir := false
    mask := 0#2
    rl := false
    value := 0#2
    rdata := 0#2
    upc := 0#5
    phase := .idle
    xbr := .nca
    ybr := .nca
    inh0 := .nca
    inh1 := .nca
    abus := 0#8
    lrst := false
    dbgl := false
    qcnt := 0
    done := false
    cells := []
    latch := 0#2
    latchFixed := false
    trace := []
    rstIn := []
    cmdIn := []
    senseIn := []
    freeCount := 0 }

/-- Writes UPC, nothing else. -/
def State.setUpc (s : State) (v : Upc) : State :=
  { s with upc := v }

/-- Writes XBR, nothing else. -/
def State.setXbr (s : State) (v : BridgeState) : State :=
  { s with xbr := v }

/-- Writes YBR, nothing else. -/
def State.setYbr (s : State) (v : BridgeState) : State :=
  { s with ybr := v }

/-- Writes INH0, nothing else. -/
def State.setInh0 (s : State) (v : BridgeState) : State :=
  { s with inh0 := v }

/-- Writes INH1, nothing else. -/
def State.setInh1 (s : State) (v : BridgeState) : State :=
  { s with inh1 := v }

/-- Writes ABUS, nothing else. -/
def State.setAbus (s : State) (v : Addr) : State :=
  { s with abus := v }

/-- Writes LRST, nothing else. -/
def State.setLrst (s : State) (v : Bool) : State :=
  { s with lrst := v }

/-- Writes DBGL, nothing else. -/
def State.setDbgl (s : State) (v : Bool) : State :=
  { s with dbgl := v }

/-- Writes QCNT, nothing else. -/
def State.setQcnt (s : State) (v : Nat) : State :=
  { s with qcnt := v }

/-- Writes the core plane, nothing else. -/
def State.setCells (s : State) (v : Memory) : State :=
  { s with cells := v }

/-- Writes the sense latch, and whether the spec fixes it, nothing else. -/
def State.setLatch (s : State) (v0 : Plane2) (v1 : Bool) : State :=
  { s with latch := v0, latchFixed := v1 }

end Sys2Proof.Machine
end

