-- ==== Sys2Proof/Machine/Memory.lean ====
section
/-! DEFINITION. The core plane as data: a list of written cells in rising order of address (R60, R61), its canonical form, the
read and the write of one cell, and `MemRead`, `MemWrite` of R9, the environment's own operations. -/

namespace Sys2Proof.Machine

/-- The listed cells rise strictly from the address `lo`, lie in the 256 addresses and hold 2 bits each (R60, R61). -/
def memoryWfFrom (lo : Nat) : Memory → Bool
  | [] => true
  | (a, b) :: m => decide (lo ≤ a) && decide (a < 256) && decide (b.toNat < 4) && memoryWfFrom (a + 1) m

/-- The canonical form of the core plane. An unlisted cell reads as no value, so no entry can equal it. -/
def Memory.wf (m : Memory) : Bool := memoryWfFrom 0 m

/-- The listed content of an address, if it has been written since power-on. -/
def memoryRead : Memory → Nat → Option (BitVec 8)
  | [], _ => none
  | (a, b) :: m, k => if a = k then some b else memoryRead m k

/-- List `v` at the address `k`, in its place. -/
def memoryWrite : Memory → Nat → BitVec 8 → Memory
  | [], k, v => [(k, v)]
  | (a, b) :: m, k, v =>
    if k < a then (k, v) :: (a, b) :: m
    else if k = a then (k, v) :: m
    else (a, b) :: memoryWrite m k v

/-- The content of a cell of a listed plane. A cell not written since power-on holds any value (R49, U11). -/
def cellContent (m : Memory) (a : Addr) : Plane2 :=
  match memoryRead m a.toNat with
  | some b => b.setWidth 2
  | none => Config.powerOnCell a

/-- `MemRead(a, 2)`: what a cell holds (R9, R71). ENV_IDEAL: the content the events gave it. ENV_ANY: any value, at any time
(U1): nothing bounds what a physical cell holds (R79; log entry 13). -/
def State.memRead (s : State) (a : Addr) : Plane2 :=
  match s.params.env with
  | .ideal => cellContent s.cells a
  | .any => Config.anyCell s.trace.length s.freeCount a

/-- `MemWrite(a, 2, v)` (R9, R71). -/
def State.memWrite (s : State) (a : Addr) (v : Plane2) : State :=
  s.setCells (memoryWrite s.cells a.toNat (v.setWidth 8))

end Sys2Proof.Machine
end

