-- ==== Sys2Proof/Machine/Flags.lean ====
section
/-! DEFINITION. The derived conditions, none of them stored (R30): the Address Encoder `DECODE` (41_address_encoder), the
effective directions (R33), `conducts` (R11), `BUSY` (R34), and which places of the sequence are legal (R28, R29, V11). -/

namespace Sys2Proof.Machine

/-- `x = address & 0xF` (R141). -/
def coordX (a : Addr) : Coord := (a &&& 0xF#8).setWidth 4

/-- `y = (address >> 4) & 0xF` (R141). -/
def coordY (a : Addr) : Coord := ((a >>> 4) &&& 0xF#8).setWidth 4

/-- `invert_x = ((x + y) mod 2) != 0`, the Orientation Flag (R31, R141). -/
def invertX (a : Addr) : Bool := ((coordX a).toNat + (coordY a).toNat) % 2 != 0

/-- `invert_inhibit_base = (y mod 2) == 0`: true when y is even (R32, R142, C1). -/
def invertInhibitBase (a : Addr) : Bool := (coordY a).toNat % 2 == 0

/-- `DECODE(address) -> (x, y, invert_x, invert_inhibit_base)` (R140). -/
def addressDecode (a : Addr) : Coord × Coord × Bool × Bool := (coordX a, coordY a, invertX a, invertInhibitBase a)

/-- `eff_x = DIR ^ invert_x` (R33, R154). -/
def effX (a : Addr) (d : Bool) : Bool := d ^^ invertX a

/-- `eff_inh = invert_inhibit_base ^ DIR` (R33, R156). -/
def effInh (a : Addr) (d : Bool) : Bool := invertInhibitBase a ^^ d

/-- `conducts(s)`: true for CD1 and CD2 (R11). -/
def conducts : BridgeState → Bool
  | .cd1 | .cd2 => true
  | .nca | .ncb => false

/-- `BUSY` is `PHASE != IDLE` (R34). -/
def State.busy (s : State) : Bool := s.phase != .idle

/-- The combinations of PHASE, UPC and OP that the sequences of R28 and R29 can reach: UPC runs 0 to 17 in a pulse and is 0
outside one; only a READ samples; a PULSE has no second pulse. The others are V11's. -/
def State.onSequence (s : State) : Bool :=
  match s.phase with
  | .idle => s.upc == 0#5
  | .p1 => s.upc.toNat ≤ 17
  | .sample => s.op == .read && s.upc == 0#5
  | .p2 => s.op != .pulse && s.upc.toNat ≤ 17

/-- The level of the input `rst` at this step (R50, R220). -/
def State.rstHigh (s : State) : Bool := s.rstIn.headD false

end Sys2Proof.Machine
end

