-- ==== Sys2Proof/Machine/Operands.lean ====
section
/-! DEFINITION. Operands: the hand-over table of R182, the call forms with their truncation (R99, R104, D23), the
pseudo-operations (R105), and the Bridge States a pulse drives (R154, R157, R158, R174). -/

namespace Sys2Proof.Machine

/-- The three pulse operands the composer loads at the start of each pulse (R182). -/
structure PulseOperands where
  dir : Bool
  mask : Plane2
  rl : Bool
deriving DecidableEq, Repr

/-- The clear pulse: P1 of WRITE (R182, R183). -/
def clearOperands : PulseOperands := { dir := false, mask := 0b11#2, rl := false }

/-- The destructive read: P1 of READ (R182, R186). -/
def destructiveReadOperands : PulseOperands := { dir := false, mask := 0b11#2, rl := true }

/-- The set pulse of a value: P2 of WRITE, and P2 of READ, its restore pulse (R182). -/
def setOperandsOf (v : Plane2) : PulseOperands := { dir := true, mask := v, rl := false }

/-- What X is driven to: CD2 when `eff_x` is true, else CD1 (R154). -/
def xDrive (a : Addr) (d : Bool) : BridgeState := if effX a d then .cd2 else .cd1

/-- What a driven inhibit bridge is driven to: CD2 when `eff_inh` is true, else CD1 (R157). -/
def inhDrive (a : Addr) (d : Bool) : BridgeState := if effInh a d then .cd2 else .cd1

/-- What Y is driven to: CD1 when the direction is true, else CD2 (R158): the opposite sense of the other two (R174). -/
def yDrive (d : Bool) : BridgeState := if d then .cd1 else .cd2

/-- `NC`, the inert state chosen by OFF_ENC (R11, D6). -/
def noConduction (p : Params) : BridgeState :=
  match p.offEnc with
  | .nca => .nca
  | .ncb => .ncb

/-- `pulse(address, direction, enable_mask, reset_latch)` on a host's numbers, each cut to its field (R62, R99, R104). -/
def callPulse (address : Nat) (direction : Bool) (enableMask : Nat) (resetLatch : Bool) : Instr :=
  .pulse (BitVec.ofNat 8 address) direction (BitVec.ofNat 2 enableMask) resetLatch

/-- `write(address, value)` on a host's numbers, each cut to its field (R62, R99, R104). -/
def callWrite (address value : Nat) : Instr := .write (BitVec.ofNat 8 address) (BitVec.ofNat 2 value)

/-- `read(address)` on a host's number, cut to its field (R62, R99, R104). -/
def callRead (address : Nat) : Instr := .read (BitVec.ofNat 8 address)

/-- The pulse command with the operands of a hand-over row. -/
def pulseWith (a : Addr) (o : PulseOperands) : Instr := .pulse a o.dir o.mask o.rl

/-- The clear pulse at `a` (R105). -/
def clearPulseAt (a : Addr) : Instr := pulseWith a clearOperands

/-- The set pulse at `a` with `v` (R105). -/
def setPulseAt (a : Addr) (v : Plane2) : Instr := pulseWith a (setOperandsOf v)

/-- The destructive-read pulse at `a` (R105). -/
def destructiveReadPulseAt (a : Addr) : Instr := pulseWith a destructiveReadOperands

/-- The restore pulse at `a` with `v`: the set pulse (R105). -/
def restorePulseAt (a : Addr) (v : Plane2) : Instr := setPulseAt a v

end Sys2Proof.Machine
end

