-- ==== Sys2Proof/Machine/Env.lean ====
section
/-! DEFINITION. The environment of 20_memory.md section 5: what a full-select does to the addressed cell and to the sense
latch (R71, R73, R76), what the latch-reset line does (R76), and what a sample answers (R77). R71 to R76 are rules of
ENV_IDEAL: under ENV_ANY none of them is assumed (R79). -/

namespace Sys2Proof.Machine

/-- The content of a cell after a full-select in the direction `d` of the planes in `full` (R71): a plane that gets full
current takes `d`, the other keeps its bit. -/
def pulsedCell (old full : Plane2) (d : Bool) : Plane2 :=
  BitVec.ofBool (if full.getLsbD 1 then d else old.getLsbD 1) ++ BitVec.ofBool (if full.getLsbD 0 then d else old.getLsbD 0)

/-- The planes that get full current: those whose inhibit bridge does not conduct (R73). -/
def fullPlanes (inh0 inh1 : BridgeState) : Plane2 :=
  BitVec.ofBool (!conducts inh1) ++ BitVec.ofBool (!conducts inh0)

/-- The latch after a direction-false full-select while armed: a plane that goes from 1 to 0 sets its bit, any other bit stays
(R76 (b)). -/
def capturedLatch (latch old full : Plane2) : Plane2 :=
  BitVec.ofBool (latch.getLsbD 1 || full.getLsbD 1 && old.getLsbD 1) ++
    BitVec.ofBool (latch.getLsbD 0 || full.getLsbD 0 && old.getLsbD 0)

/-- The core plane at a full-select of the cell on the bus (R71, R73, R74). With both planes inhibited no cell changes
(R75). -/
def State.selectCell (s : State) (d : Bool) : State :=
  let full := fullPlanes s.inh0 s.inh1
  if full = 0#2 then s else s.memWrite s.abus (pulsedCell (s.memRead s.abus) full d)

/-- The sense latch at a full-select (R76 (b)). What a set pulse, or a full-select with the latch not armed, does to it the
spec leaves unspecified (R76 (c), V7): from then on nothing is claimed of what it holds. DESIGN CHOICE, unsafe, log entry 12:
captures accumulate. At a second direction-false full-select with no `LR(false)` between, a stale capture, which the spec
leaves open (R76 (c), V7, N11), the new bits are joined to those held and the latch still counts as fixed. -/
def State.captureLatch (s : State) (d : Bool) : State :=
  if !d && s.lrst then
    s.setLatch (capturedLatch s.latch (s.memRead s.abus) (fullPlanes s.inh0 s.inh1)) s.latchFixed
  else s.setLatch s.latch false

/-- The Y bridge begins to conduct (R73). ENV_IDEAL: where X conducts too, the intersection core of the address on the bus sees
the full field in the direction `d` (R12, R164; DEDUCED, log entry 15). ENV_ANY: nothing is known of what the cells and the
latch do (R79, U1): `State.memRead` and `State.senseLevels` answer any value there (log entry 13). -/
def State.fullSelect (s : State) (d : Bool) : State :=
  match s.params.env with
  | .ideal => if conducts s.xbr then (s.captureLatch d).selectCell d else s
  | .any => s

/-- The latch-reset line is written. ENV_IDEAL: `LR(false)` clears the latch (R76 (a)). -/
def State.latchResetLine (s : State) (v : Bool) : State :=
  if v then s
  else
    match s.params.env with
    | .ideal => s.setLatch 0#2 true
    | .any => s

/-- The pair of levels on the sense inputs at a sample, `{sense1, sense0}` (R77). ENV_IDEAL: the latch, where the spec fixes
it, else any value (V7). ENV_ANY: any value. -/
def State.senseLevels (s : State) : Plane2 :=
  match s.params.env with
  | .ideal => if s.latchFixed then s.latch else Config.freePair s.freeCount
  | .any =>
    match s.senseIn with
    | v :: _ => v
    | [] => Config.freePair s.freeCount

/-- The sense levels listed for later samples. -/
def State.senseRest (s : State) : List Plane2 :=
  match s.params.env with
  | .ideal => s.senseIn
  | .any => s.senseIn.tail

end Sys2Proof.Machine
end

