-- ==== Sys2Proof/Machine/Ops.lean ====
section
/-! DEFINITION. The shared operations: the effect of each event and its emission (R9, R120 to R125), the slot of the
micro-program (R28, R150), the acceptance of a command (R180, R182), and what takes the place of an exception: the block has
none (R200, R204), and the one thing that abandons an operation is `rst` (R172, R224), whose operation stands here. -/

namespace Sys2Proof.Machine

/-! ## The constants of the pulse, in quanta (R7) -/

def tAddr : Nat := 2
def tInh : Nat := 1
def tY : Nat := 10
def tYOff : Nat := 1
def tIdleA : Nat := 5
def tIdleB : Nat := 5

/-! ## Micro-operations -/

/-- `BR(k, s)`: the register of one bridge takes the state, both lines at once (R121). When Y begins to conduct the
environment reads the lines as they then stand, the direction being `YBR == CD1` (R73). -/
def State.driveBridge (s : State) : Bridge → BridgeState → State
  | .x, v => s.setXbr v
  | .inh0, v => s.setInh0 v
  | .inh1, v => s.setInh1 v
  | .y, v => if conducts v then (s.setYbr v).fullSelect (v == .cd1) else s.setYbr v

/-- `SS`: `VALUE <- {sense1, sense0}` (R124); the block changes no output line and the environment keeps its state (R77). -/
def State.sampleSense (s : State) : State :=
  { s with value := s.senseLevels, senseIn := s.senseRest, freeCount := s.freeCount + 1 }

/-- The counter QCNT of R120, one decrement per clock, run until it is 0. That it counts down, and has no bound, is the model's
(R47 (b), R207; DESIGN CHOICE, log entry 29). -/
def countDown : Nat → Nat
  | 0 => 0
  | k + 1 => countDown k

/-- The count QCNT is loaded with for `W(n)` (R120, R207). -/
def quantaToCycles (n : Nat) : Nat := n * Config.quantumCycles

/-- `W(n)`: no line and no output register changes (R120). The wait always completes (R242), so QCNT, loaded with
`n * QUANTUM_CYCLES` and counted down, is left at 0 (log entry 8; `countDown_expires` in Laws/Ops.lean). -/
def State.waitQuanta (s : State) (_n : Nat) : State := s.setQcnt 0

/-- `DBG`: `DBGL <- 1; DBGL <- 0` (R125). No slot and no phase emits it (R42). -/
def State.strobeDebug (s : State) : State := (s.setDbgl true).setDbgl false

/-- The effect of an event on the state: the rule of the event says which state element it writes (R9). -/
def State.applyEvent (s : State) : Event → State
  | .ab b => s.setAbus b
  | .br k v => s.driveBridge k v
  | .lr v => (s.setLrst v).latchResetLine v
  | .w n => s.waitQuanta n
  | .ss => s.sampleSense
  | .dbg => s.strobeDebug

/-- `emit E`: append the event to the trace and apply its effect (R9). -/
def State.emit (s : State) (e : Event) : State :=
  let t := s.applyEvent e
  { t with trace := t.trace ++ [e] }

/-- Emit a list of events in order: a simulated actuator backend (R129). -/
def State.emitAll (s : State) : List Event → State
  | [] => s
  | e :: es => (s.emit e).emitAll es

/-! ## Slots -/

/-- Slot `i` runs its event, then `UPC <- i + 1` (R28, R150). -/
def State.slot (s : State) (i : Nat) (e : Event) : State := (s.emit e).setUpc (BitVec.ofNat 5 (i + 1))

/-- A slot with a condition: when it is false the slot emits nothing and UPC still advances (R28, R150). -/
def State.slotIf (s : State) (i : Nat) (c : Bool) (e : Event) : State :=
  if c then s.slot i e else s.setUpc (BitVec.ofNat 5 (i + 1))

/-! ## Commands -/

/-- The composer starts a pulse: operands loaded, `UPC <- 0`, the phase entered (R180, R182). -/
def State.startPulse (s : State) (o : PulseOperands) (p : Phase) : State :=
  { s with dir := o.dir, mask := o.mask, rl := o.rl, upc := 0#5, phase := p }

/-- Acceptance of a command (R180): OP and ADDR, then the operands of the first pulse. Only when PHASE is IDLE; while the
block is busy the command is not accepted and nothing changes (R203 (a), D14). -/
def State.accept (s : State) (op : Op) (a : Addr) (o : PulseOperands) : State :=
  if s.busy then s else { s with op := op, addr := a }.startPulse o .p1

/-- Acceptance of a command that carries a value: VALUE is loaded too (R26, R180). -/
def State.acceptValue (s : State) (op : Op) (a : Addr) (v : Plane2) (o : PulseOperands) : State :=
  if s.busy then s else { s with op := op, addr := a, value := v }.startPulse o .p1

/-! ## Reset -/

/-- The core plane of ENV_IDEAL when `rst` comes: the addressed cell of an operation in progress becomes any value on both planes, the
others keep theirs (R224, U12); `rst` while idle leaves the cells unchanged (95_test_vectors, table 2.8). -/
def State.cellsAfterReset (s : State) : Memory :=
  if s.busy then memoryWrite s.cells s.addr.toNat ((Config.freePair s.freeCount).setWidth 8) else s.cells

/-- `rst`: the state of R48 (R220). PHASE is IDLE, UPC and QCNT are 0, all 18 lines are low (the bridges NCA, the bus 0, the
latch-reset line at the level that is not LRST_TRUE_LEVEL's `true`). The holding registers are unspecified: any value (R48,
V3, V4); so is what the sense latch holds (R49). An operation in progress is abandoned (R224). No event is emitted. -/
def State.resetBlock (s : State) : State :=
  { s with
    op := Config.freeOp s.freeCount
    addr := Config.freeAddr s.freeCount
    dir := Config.freeBit s.freeCount
    mask := Config.freePair (s.freeCount + 1)
    rl := Config.freeBit (s.freeCount + 1)
    value := Config.freePair (s.freeCount + 2)
    rdata := Config.freePair (s.freeCount + 3)
    upc := 0#5
    phase := .idle
    xbr := .nca
    ybr := .nca
    inh0 := .nca
    inh1 := .nca
    abus := 0#8
    lrst := !s.params.lrstTrueLevel
    dbgl := false
    qcnt := 0
    done := false
    cells := s.cellsAfterReset
    latchFixed := false
    freeCount := s.freeCount + 4 }

end Sys2Proof.Machine
end

