-- ==== Sys2Proof/Machine/Composer.lean ====
section
/-! DEFINITION. The composer (43_memory_operations): what follows the end of a pulse (R29, R182, R191), what the block runs
next, and what a step does around an instruction. -/

namespace Sys2Proof.Machine

/-- The end of an operation: PHASE returns to IDLE and `done` is high for one clock (R191). -/
def State.finish (s : State) : State := { s with phase := .idle, upc := 0#5, done := true }

/-- UPC has reached 17: `UPC <- 0` and control returns to the composer (R28, R150). After P1 a PULSE ends, a WRITE runs its set
pulse, a READ samples; after P2 the operation ends, and a READ delivers `RDATA <- VALUE` (R29, R182, R191). -/
def State.endPulse (s : State) : State :=
  match s.phase, s.op with
  | .p1, .pulse => s.finish
  | .p1, .write => s.startPulse (setOperandsOf s.value) .p2
  | .p1, .read => { s with phase := .sample, upc := 0#5 }
  | .p2, .read => { s with rdata := s.value }.finish
  | .p2, .write => s.finish
  | .p2, .pulse => s.finish
  | .idle, _ => s
  | .sample, _ => s

/-- What the block is given to run next: a command word when idle and one is offered (R180, R221), the slot at UPC in a pulse
(R28), the sample in SAMPLE (R187). -/
def State.fetch (s : State) : Option Code :=
  match s.phase with
  | .idle => s.cmdIn.head?.map Code.cmd
  | .p1 | .p2 => some (.slot s.upc)
  | .sample => some (.phase s.phase.code)

/-- The inputs and outputs that every step moves on: `rst` has its next level, `done` is low again (R50, R191). -/
def State.clockIn (s : State) : State := { s with rstIn := s.rstIn.tail, done := false }

/-- A word offered to the idle block is taken; while the block is busy the host holds it (R50, R203 (a)). -/
def State.takeCommand (s : State) : State :=
  match s.phase with
  | .idle => { s with cmdIn := s.cmdIn.tail }
  | .p1 | .sample | .p2 => s

/-- The state an instruction runs in: the inputs moved on and the offered word taken. -/
def State.beforeExec (s : State) : State := s.clockIn.takeCommand

/-- A combination of PHASE and UPC that cannot be reached returns to IDLE with all lines low (V11), as `rst` does (log entry
17). -/
def State.recover (s : State) : State := s.resetBlock

end Sys2Proof.Machine
end

