-- ==== Sys2Proof/Machine/Commands.lean ====
section
/-! DEFINITION. The meanings of the four CMD16 rows: running a command is accepting it (R180), after which its pulses run slot
by slot (R194). -/

namespace Sys2Proof.Machine

/-- PULSE: accepted with the host's operands exactly as given (R181, R182). -/
def execPulse (a : Addr) (d : Bool) (m : Plane2) (r : Bool) (s : State) : Host.Outcome State Fault Refusal :=
  .next (s.accept .pulse a { dir := d, mask := m, rl := r })

/-- WRITE: accepted with its value; the clear pulse is first (R182, R183). -/
def execWrite (a : Addr) (v : Plane2) (s : State) : Host.Outcome State Fault Refusal :=
  .next (s.acceptValue .write a v clearOperands)

/-- READ: accepted; the destructive read is first (R182, R186). -/
def execRead (a : Addr) (s : State) : Host.Outcome State Fault Refusal :=
  .next (s.accept .read a destructiveReadOperands)

/-- The reserved command word: a model refuses it (R101). -/
def execReservedOp3 (_s : State) : Host.Outcome State Fault Refusal := .refused .reservedOp

end Sys2Proof.Machine
end

