-- ==== Sys2Proof/Machine/Sample.lean ====
section
/-! DEFINITION. The meaning of SS (R124, R187). -/

namespace Sys2Proof.Machine

/-- SS: `VALUE <- {sense1, sense0}` (R124); with no event between, the composer starts the restore pulse, direction true and
the sampled value its mask (R182, R187, R189). -/
def execSs (s : State) : Host.Outcome State Fault Refusal :=
  let t := s.emit .ss
  .next (t.startPulse (setOperandsOf t.value) .p2)

end Sys2Proof.Machine
end

