-- ==== Sys2Proof/Machine/Slots.lean ====
section
/-! DEFINITION. The meanings of the 17 slots of the pulse micro-program (42_waveform_sequencer, R150 to R162). -/

namespace Sys2Proof.Machine

/-- Slot 0: `AB(ADDR)` (R151). -/
def execS0Ab (s : State) : Host.Outcome State Fault Refusal := .next (s.slot 0 (.ab s.addr))

/-- Slot 1: `W(2)` (R151). -/
def execS1W2 (s : State) : Host.Outcome State Fault Refusal := .next (s.slot 1 (.w tAddr))

/-- Slot 2: `if RL: LR(false)` (R153). -/
def execS2Lrf (s : State) : Host.Outcome State Fault Refusal := .next (s.slotIf 2 s.rl (.lr false))

/-- Slot 3: `BR(X, if eff_x: CD2 else: CD1)` (R154). -/
def execS3Brx (s : State) : Host.Outcome State Fault Refusal := .next (s.slot 3 (.br .x (xDrive s.addr s.dir)))

/-- Slot 4: `LR(true)`, unconditional (R155). -/
def execS4Lrt (s : State) : Host.Outcome State Fault Refusal := .next (s.slot 4 (.lr true))

/-- Slot 5: `if !MASK[0]: BR(INH0, if eff_inh: CD2 else: CD1)` (R157). -/
def execS5Bri0 (s : State) : Host.Outcome State Fault Refusal :=
  .next (s.slotIf 5 (!s.mask.getLsbD 0) (.br .inh0 (inhDrive s.addr s.dir)))

/-- Slot 6: `if !MASK[1]: BR(INH1, if eff_inh: CD2 else: CD1)` (R157). -/
def execS6Bri1 (s : State) : Host.Outcome State Fault Refusal :=
  .next (s.slotIf 6 (!s.mask.getLsbD 1) (.br .inh1 (inhDrive s.addr s.dir)))

/-- Slot 7: `W(1)`, unconditional (R157, D11). -/
def execS7W1a (s : State) : Host.Outcome State Fault Refusal := .next (s.slot 7 (.w tInh))

/-- Slot 8: `BR(Y, if DIR: CD1 else: CD2)`, the full-select (R158). -/
def execS8Bry (s : State) : Host.Outcome State Fault Refusal := .next (s.slot 8 (.br .y (yDrive s.dir)))

/-- Slot 9: `W(10)` (R158). -/
def execS9W10 (s : State) : Host.Outcome State Fault Refusal := .next (s.slot 9 (.w tY))

/-- Slot 10: `BR(Y, NC)` (R159). -/
def execS10BryOff (s : State) : Host.Outcome State Fault Refusal := .next (s.slot 10 (.br .y (noConduction s.params)))

/-- Slot 11: `W(1)` (R159). -/
def execS11W1b (s : State) : Host.Outcome State Fault Refusal := .next (s.slot 11 (.w tYOff))

/-- Slot 12: `BR(INH0, NC)`, unconditional (R160, D11). -/
def execS12Bri0Off (s : State) : Host.Outcome State Fault Refusal := .next (s.slot 12 (.br .inh0 (noConduction s.params)))

/-- Slot 13: `BR(INH1, NC)`, unconditional (R160, D11). -/
def execS13Bri1Off (s : State) : Host.Outcome State Fault Refusal := .next (s.slot 13 (.br .inh1 (noConduction s.params)))

/-- Slot 14: `BR(X, NC)` (R161). -/
def execS14BrxOff (s : State) : Host.Outcome State Fault Refusal := .next (s.slot 14 (.br .x (noConduction s.params)))

/-- Slot 15: `W(5)`, the first of two waits that stay two (R162, R231). -/
def execS15W5a (s : State) : Host.Outcome State Fault Refusal := .next (s.slot 15 (.w tIdleA))

/-- Slot 16: `W(5)`, the second (R162, R231). UPC becomes 17, the end marker. -/
def execS16W5b (s : State) : Host.Outcome State Fault Refusal := .next (s.slot 16 (.w tIdleB))

end Sys2Proof.Machine
end

