-- ==== Sys2Proof/Machine/Dispatch.lean ====
section
/-! DEFINITION. One arm per constructor of Instr. -/

namespace Sys2Proof.Machine

def exec (i : Instr) (s : State) : Host.Outcome State Fault Refusal :=
  match i with
  | .pulse a d m r => Sys2Proof.Machine.execPulse a d m r s
  | .write a v => Sys2Proof.Machine.execWrite a v s
  | .read a => Sys2Proof.Machine.execRead a s
  | .reservedOp3 => Sys2Proof.Machine.execReservedOp3 s
  | .s0Ab => Sys2Proof.Machine.execS0Ab s
  | .s1W2 => Sys2Proof.Machine.execS1W2 s
  | .s2Lrf => Sys2Proof.Machine.execS2Lrf s
  | .s3Brx => Sys2Proof.Machine.execS3Brx s
  | .s4Lrt => Sys2Proof.Machine.execS4Lrt s
  | .s5Bri0 => Sys2Proof.Machine.execS5Bri0 s
  | .s6Bri1 => Sys2Proof.Machine.execS6Bri1 s
  | .s7W1a => Sys2Proof.Machine.execS7W1a s
  | .s8Bry => Sys2Proof.Machine.execS8Bry s
  | .s9W10 => Sys2Proof.Machine.execS9W10 s
  | .s10BryOff => Sys2Proof.Machine.execS10BryOff s
  | .s11W1b => Sys2Proof.Machine.execS11W1b s
  | .s12Bri0Off => Sys2Proof.Machine.execS12Bri0Off s
  | .s13Bri1Off => Sys2Proof.Machine.execS13Bri1Off s
  | .s14BrxOff => Sys2Proof.Machine.execS14BrxOff s
  | .s15W5a => Sys2Proof.Machine.execS15W5a s
  | .s16W5b => Sys2Proof.Machine.execS16W5b s
  | .ss => Sys2Proof.Machine.execSs s

end Sys2Proof.Machine
end

