-- ==== Sys2Proof/Machine/Step.lean ====
section
/-! DEFINITION. One step: an accepted command, one slot, the sample, the end of a pulse, a reset, or rest (R194, R211, R242).
It always answers a next state but for a reserved command word (R200). And the placing of one instruction for the next
step. -/

namespace Sys2Proof.Machine

def step (s : State) : Host.Outcome State Fault Refusal :=
  if s.rstHigh then .next s.clockIn.resetBlock
  else if !s.onSequence then .next s.clockIn.recover
  else
    match s.fetch with
    | none => .next s.clockIn
    | some c =>
      match decode c with
      | .ok i => exec i s.beforeExec
      | .error .endMarker => .next s.clockIn.endPulse
      | .error .noSlot => .next s.clockIn.recover
      | .error .noPhaseOp => .next s.clockIn.recover

/-- The state whose next step runs the instruction with the given bits of spec/opcode_table.json (log entry 3): a command word
is offered to the idle block ahead of the others; a slot is the one at UPC in P1; SS is run in SAMPLE of a READ. `rst` is
low at that step. -/
def State.withFetchWord (s : State) (nbits w : Nat) : State :=
  let r := if s.rstHigh then false :: s.rstIn.tail else s.rstIn
  match codeOfTable nbits w with
  | .cmd c => { s with phase := .idle, upc := 0#5, cmdIn := c :: s.cmdIn, rstIn := r }
  | .slot n => { s with phase := .p1, upc := n, rstIn := r }
  | .phase p => { s with phase := Phase.ofCode p, upc := 0#5, op := .read, rstIn := r }

end Sys2Proof.Machine
end

