-- ==== Sys2Proof/Machine/Listing.lean ====
section
/-! DEFINITION. The traces of the operations as the spec lists them, whole: a pulse (R176), `write` (R183, R184), `read` (R186,
R188), with the counts taken from a trace: its events, its waits, its quanta, and how long a bridge conducts (R167, R168,
R240). -/

namespace Sys2Proof.Machine

/-- One event, or none when the condition is false. -/
def eventIf (c : Bool) (e : Event) : List Event := if c then [e] else []

/-- `PULSE(a, d, m, r)`, complete (R176). -/
def pulseTrace (p : Params) (a : Addr) (d : Bool) (m : Plane2) (r : Bool) : List Event :=
  [.ab a, .w 2] ++ eventIf r (.lr false)
    ++ [.br .x (if d ^^ a.getLsbD 0 ^^ a.getLsbD 4 then .cd2 else .cd1), .lr true]
    ++ eventIf (!m.getLsbD 0) (.br .inh0 (if !a.getLsbD 4 ^^ d then .cd2 else .cd1))
    ++ eventIf (!m.getLsbD 1) (.br .inh1 (if !a.getLsbD 4 ^^ d then .cd2 else .cd1))
    ++ [.w 1, .br .y (if d then .cd1 else .cd2), .w 10, .br .y (noConduction p), .w 1,
        .br .inh0 (noConduction p), .br .inh1 (noConduction p), .br .x (noConduction p), .w 5, .w 5]

/-- `WRITE(a, v)`: the clear pulse, then the set pulse (R183, R184). -/
def writeTrace (p : Params) (a : Addr) (v : Plane2) : List Event :=
  pulseTrace p a false 0b11#2 false ++ pulseTrace p a true v false

/-- `READ(a)` that samples `v`: the destructive read, the sample, the restore pulse (R186, R188). -/
def readTrace (p : Params) (a : Addr) (v : Plane2) : List Event :=
  pulseTrace p a false 0b11#2 true ++ [.ss] ++ pulseTrace p a true v false

/-- The waits of a trace, in order. -/
def waitsOf : List Event → List Nat
  | [] => []
  | .w n :: es => n :: waitsOf es
  | .ab _ :: es | .br _ _ :: es | .lr _ :: es | .ss :: es | .dbg :: es => waitsOf es

/-- The quanta a trace waits at least (R168, R240). -/
def quantaOf (es : List Event) : Nat := (waitsOf es).foldr (· + ·) 0

/-- The least duration of a trace in nanoseconds (R240). -/
def durationNs (p : Params) (es : List Event) : Nat := quantaOf es * p.quantumNs

/-- The quanta a trace waits while the bridge `k` conducts, given whether it conducts at the start (R167, R240). -/
def conductionQuanta (k : Bridge) : Bool → List Event → Nat
  | _, [] => 0
  | on, .w n :: es => (if on then n else 0) + conductionQuanta k on es
  | on, .br j v :: es => conductionQuanta k (if j = k then conducts v else on) es
  | on, .ab _ :: es | on, .lr _ :: es | on, .ss :: es | on, .dbg :: es => conductionQuanta k on es

end Sys2Proof.Machine
end

