-- ==== Sys2Proof/Machine/Ports.lean ====
section
/-! DEFINITION. The block's ports as R50 renders them, and the levels of its 18 output lines (R35, R95, R97, R107). -/

namespace Sys2Proof.Machine

/-- The enable line of a bridge, bit 0 (R95). -/
def enableLine (v : BridgeState) : Bool := v.bits.getLsbD 0

/-- The direction line of a bridge, bit 1 (R95). -/
def directionLine (v : BridgeState) : Bool := v.bits.getLsbD 1

/-- The level of the latch-reset line: `true` drives LRST_TRUE_LEVEL, `false` the other level (R41, R107, D8). -/
def State.latchResetLevel (s : State) : Bool := if s.lrst then s.params.lrstTrueLevel else !s.params.lrstTrueLevel

/-- The levels of the 18 output lines (R35): X, Y, Inhibit-0, Inhibit-1 (enable, direction each), address-bus lines 0 to 7,
line `i` carrying address bit `i` (R97), the latch-reset line, the debug line. -/
def State.outputLines (s : State) : List Bool :=
  [enableLine s.xbr, directionLine s.xbr, enableLine s.ybr, directionLine s.ybr,
   enableLine s.inh0, directionLine s.inh0, enableLine s.inh1, directionLine s.inh1,
   s.abus.getLsbD 0, s.abus.getLsbD 1, s.abus.getLsbD 2, s.abus.getLsbD 3,
   s.abus.getLsbD 4, s.abus.getLsbD 5, s.abus.getLsbD 6, s.abus.getLsbD 7,
   s.latchResetLevel, s.dbgl]

/-- The output ports of R50. -/
structure Ports where
  cmdReady : Bool
  done : Bool
  rdata : Plane2
  xBr : BitVec 2
  yBr : BitVec 2
  inh0Br : BitVec 2
  inh1Br : BitVec 2
  abus : BitVec 8
  latchReset : Bool
  dbg : Bool
deriving DecidableEq, Repr

/-- What the block shows on its output ports (R50). -/
def State.ports (s : State) : Ports :=
  { cmdReady := !s.busy
    done := s.done
    rdata := s.rdata
    xBr := s.xbr.bits
    yBr := s.ybr.bits
    inh0Br := s.inh0.bits
    inh1Br := s.inh1.bits
    abus := s.abus
    latchReset := s.latchResetLevel
    dbg := s.dbgl }

/-- The input `cmd_valid`: the host offers a word (R50). -/
def State.cmdValid (s : State) : Bool := !s.cmdIn.isEmpty

end Sys2Proof.Machine
end

