-- ==== Sys2Proof/Safety.lean ====
section
/-! DEFINITION. What the statements are about: several steps in a row, no `rst` for some steps, the places of a pulse, the
invariants of the machine (R28, R44, R167, R171, R182), and what two states share that differ only in the environment (R80). -/

namespace Sys2Proof.Machine

/-- `k` steps in a row. -/
def runSteps : Nat → State → Host.Outcome State Fault Refusal
  | 0, s => .next s
  | k + 1, s =>
    match step s with
    | .next t => runSteps k t
    | .fault f => .fault f
    | .refused r => .refused r

/-- The input `rst` is low at each of the next `k` steps. -/
def State.noReset (s : State) (k : Nat) : Prop := ∀ b ∈ s.rstIn.take k, b = false

/-- A pulse runs: PHASE is P1 or P2. -/
def State.inPulse (s : State) : Bool := s.phase == .p1 || s.phase == .p2

/-- UPC lies from `lo` to `hi` in a pulse. -/
def State.upcWithin (s : State) (lo hi : Nat) : Bool := s.inPulse && decide (lo ≤ s.upc.toNat) && decide (s.upc.toNat ≤ hi)

/-- Each bridge conducts exactly in its window of the pulse, in the direction of the pulse (R44, R167): X after slot 3 until
slot 14, an inhibit bridge whose mask bit is 0 after slot 5 or 6 until slot 12 or 13, Y after slot 8 until slot 10. -/
def State.BridgesInWindow (s : State) : Prop :=
  (if s.upcWithin 4 14 then s.xbr = xDrive s.addr s.dir else conducts s.xbr = false) ∧
  (if s.upcWithin 9 10 then s.ybr = yDrive s.dir else conducts s.ybr = false) ∧
  (if s.upcWithin 6 12 && !s.mask.getLsbD 0 then s.inh0 = inhDrive s.addr s.dir else conducts s.inh0 = false) ∧
  (if s.upcWithin 7 13 && !s.mask.getLsbD 1 then s.inh1 = inhDrive s.addr s.dir else conducts s.inh1 = false)

/-- The pulse operands are those of the hand-over table (R182). -/
def State.OperandsHandedOver (s : State) : Prop :=
  match s.phase, s.op with
  | .p1, .write => s.dir = false ∧ s.mask = 0b11#2 ∧ s.rl = false
  | .p1, .read => s.dir = false ∧ s.mask = 0b11#2 ∧ s.rl = true
  | .p2, _ => s.dir = true ∧ s.mask = s.value ∧ s.rl = false
  | .p1, .pulse | .sample, _ | .idle, _ => True

/-- The bus holds the address from slot 0 on, and between the two pulses (R40, R187). -/
def State.BusHoldsAddress (s : State) : Prop :=
  (s.upcWithin 1 17 = true ∨ s.phase = .sample ∨ s.phase = .p2) → s.abus = s.addr

/-- The latch-reset line is asserted from slot 4 on, between the two pulses, and throughout a second pulse (R41, R171). -/
def State.LatchArmed (s : State) : Prop :=
  (s.upcWithin 5 17 = true ∨ s.phase = .sample ∨ s.phase = .p2) → s.lrst = true

/-- The invariant of the sequence: the place is one R28 and R29 can reach, and the lines and operands are those of it. -/
def State.SequenceInv (s : State) : Prop :=
  s.onSequence = true ∧ s.BridgesInWindow ∧ s.OperandsHandedOver ∧ s.BusHoldsAddress ∧ s.LatchArmed

/-- What holds of the lines at rest (R42, R242): no strobe, and no wait under way between steps. -/
def State.LinesQuiet (s : State) : Prop := s.dbgl = false ∧ s.qcnt = 0

/-- The two states have the same block, inputs but for the sense inputs, parameters but for ENV, and trace; the core plane, the
sense latch and the sense inputs may differ (R80). -/
def SameBlock (s t : State) : Prop :=
  s.params.offEnc = t.params.offEnc ∧ s.params.lrstTrueLevel = t.params.lrstTrueLevel ∧
  s.params.quantumNs = t.params.quantumNs ∧
  s.op = t.op ∧ s.addr = t.addr ∧ s.dir = t.dir ∧ s.mask = t.mask ∧ s.rl = t.rl ∧ s.value = t.value ∧
  s.rdata = t.rdata ∧ s.upc = t.upc ∧ s.phase = t.phase ∧ s.xbr = t.xbr ∧ s.ybr = t.ybr ∧ s.inh0 = t.inh0 ∧
  s.inh1 = t.inh1 ∧ s.abus = t.abus ∧ s.lrst = t.lrst ∧ s.dbgl = t.dbgl ∧ s.qcnt = t.qcnt ∧ s.done = t.done ∧
  s.trace = t.trace ∧ s.rstIn = t.rstIn ∧ s.cmdIn = t.cmdIn ∧ s.freeCount = t.freeCount

/-- A safe state: no bridge conducts outside its window (R44, R167), the place is legal, the core plane is in canonical form. -/
def State.Safe (s : State) : Prop := s.SequenceInv ∧ s.LinesQuiet ∧ s.cells.wf = true

end Sys2Proof.Machine
end

