-- ==== Sys2Proof/Certificates/Slice0/Obligations.lean ====
section
/-! DEFINITION. The statements for the provers, from the numbered rules of the spec. -/

open Sys2Proof Sys2Proof.Machine

/-! ## Encodings (30_encoding) -/

/-- Every instruction's canonical code decodes to it, whatever its operands (R92, R93, R94, R100, R101). -/
def Obligations.DecodeEncodeRoundTrip : Prop :=
  ∀ i : Instr, decode (encode i) = .ok i

/-- A command word is read by its `op` field: under the mask 0x3000, the match 0x0000 is PULSE, 0x1000 WRITE, 0x2000 READ,
0x3000 reserved; the operands are the fields of the format, given here by division of the word's number (R90 to R94, R101). -/
def Obligations.CommandWordFields : Prop :=
  ∀ w : Word,
    (w &&& 0x3000#16 = 0x0000#16 → decodeCmd w =
      .pulse (BitVec.ofNat 8 w.toNat) (decide (w.toNat / 1024 % 2 = 1)) (BitVec.ofNat 2 (w.toNat / 256))
        (decide (w.toNat / 2048 % 2 = 1))) ∧
    (w &&& 0x3000#16 = 0x1000#16 →
      decodeCmd w = .write (BitVec.ofNat 8 w.toNat) (BitVec.ofNat 2 (w.toNat / 256))) ∧
    (w &&& 0x3000#16 = 0x2000#16 → decodeCmd w = .read (BitVec.ofNat 8 w.toNat)) ∧
    (w &&& 0x3000#16 = 0x3000#16 → decodeCmd w = .reservedOp3)

/-- The ignored bits make no difference: bits 15:14 of every word, bits 11:10 of a WRITE, bits 11:8 of a READ (R102). -/
def Obligations.IgnoredBitsReadAsZero : Prop :=
  ∀ w : Word,
    decodeCmd w = decodeCmd (w &&& 0x3FFF#16) ∧
    (w &&& 0x3000#16 = 0x1000#16 → decodeCmd w = decodeCmd (w &&& 0x33FF#16)) ∧
    (w &&& 0x3000#16 = 0x2000#16 → decodeCmd w = decodeCmd (w &&& 0x30FF#16))

/-- The encoder writes canonical words, and a canonical word is the code of what it decodes to (R102): so different canonical
words are different operations. -/
def Obligations.CanonicalWordsRoundTrip : Prop :=
  (∀ i : Instr, ∀ w : Word, i.wf = true → encode i = .cmd w → w.canonical = true) ∧
  (∀ w : Word, w.canonical = true → encode (decodeCmd w) = .cmd w)

/-- Slot numbers 0 to 16 are the slots, each number the code of its slot; 17 is the end marker; no slot is above it; and the one
micro-operation of a phase is SS, in phase 2 (R28, R29, R100). -/
def Obligations.SlotAndPhaseNumbers : Prop :=
  (∀ n : Upc, n.toNat ≤ 16 → ∃ i, decodeSlot n = .ok i ∧ encode i = .slot n) ∧
  (∀ n : Upc, n.toNat = 17 → decodeSlot n = .error .endMarker) ∧
  (∀ n : Upc, 17 < n.toNat → decodeSlot n = .error .noSlot) ∧
  (∀ p : Phase, decodePhase p.code = if p = .sample then .ok .ss else .error .noPhaseOp)

/-- What a code decodes to lies in its own row of the opcode table, and in no other instruction's row: two instructions whose
rows hold one code are of one row (30_encoding, opcode_table.json). -/
def Obligations.DecodedCodeLiesInOneRow : Prop :=
  (∀ c : Code, ∀ i : Instr, decode c = .ok i → inRow i c = true) ∧
  (∀ c : Code, ∀ i j : Instr, decode c = .ok i → inRow j c = true → ∀ c' : Code, inRow i c' = inRow j c')

/-- Words of the spec's tables (95_test_vectors 2.2) decode to their calls; a sanity statement. -/
def Obligations.SpecWordsDecode : Prop :=
  decodeCmd 0x0500#16 = callPulse 0x00 true 0b01 false ∧ decodeCmd 0x0B21#16 = callPulse 0x21 false 0b11 true ∧
  decodeCmd 0xCFFF#16 = callPulse 0xFF true 0b11 true ∧ decodeCmd 0x1210#16 = callWrite 0x10 0b10 ∧
  decodeCmd 0x1E10#16 = callWrite 0x10 0b10 ∧ decodeCmd 0x2F10#16 = callRead 0x10 ∧
  decodeCmd 0x3FFF#16 = .reservedOp3 ∧ decode (.slot 0b01000#5) = .ok .s8Bry ∧ decode (.phase 0b10#2) = .ok .ss

/-- A host's number wider than its field keeps its low bits, in every call: the instruction's address is the number modulo 256,
its mask or value the number modulo 4, direction and reset latch are as given (R62, R99, R104). -/
def Obligations.WideOperandsAreTruncated : Prop :=
  ∀ (a v : Nat) (d r : Bool), ∃ (x : Addr) (m : Plane2), x.toNat = a % 256 ∧ m.toNat = v % 4 ∧
    callPulse a d v r = .pulse x d m r ∧ callWrite a v = .write x m ∧ callRead a = .read x

/-! ## The Address Encoder (41_address_encoder) -/

/-- DECODE in bit form, for every address (R141, R142). -/
def Obligations.AddressDecodeBits : Prop :=
  ∀ a : Addr, addressDecode a =
    (a.extractLsb' 0 4, a.extractLsb' 4 4, a.getLsbD 0 ^^ a.getLsbD 4, !a.getLsbD 4)

/-- The source's own three results of DECODE, with the fourth component by R142 (R145). -/
def Obligations.SourceDecodeExamples : Prop :=
  addressDecode 0x00#8 = (0, 0, false, true) ∧ addressDecode 0x10#8 = (0, 1, true, false) ∧
  addressDecode 0x11#8 = (1, 1, false, false)

/-! ## The slots (42_waveform_sequencer, R150 to R162): each gives the whole next state, so that what it does not name is
unchanged, every input and ENV_IDEAL's core plane included; of what a cell holds under ENV_ANY nothing is said (R79) -/

/-- Step 1, slots 0 and 1: the whole address to the bus, unchanged, then `W(2)`; both happen whatever the bus holds. A wait
writes QCNT only (R151, R120). -/
def Obligations.AddressBusSlots : Prop :=
  ∀ s : State,
    exec .s0Ab s = .next { s with abus := s.addr, trace := s.trace ++ [.ab s.addr], upc := 1#5 } ∧
    ∃ q, exec .s1W2 s = .next { s with qcnt := q, trace := s.trace ++ [.w 2], upc := 2#5 }

/-- Step 3, slot 2: the latch-reset line is deasserted exactly when RL is true, and when it is false the slot emits nothing. Step
5, slot 4: it is asserted always. The sense latch is the environment's and is left open here (R153, R155). -/
def Obligations.LatchResetSlots : Prop :=
  ∀ s : State,
    (s.rl = true → ∃ l f, exec .s2Lrf s =
      .next { s with lrst := false, latch := l, latchFixed := f, trace := s.trace ++ [.lr false], upc := 3#5 }) ∧
    (s.rl = false → exec .s2Lrf s = .next { s with upc := 3#5 }) ∧
    exec .s4Lrt s = .next { s with lrst := true, trace := s.trace ++ [.lr true], upc := 5#5 }

/-- Step 4, slot 3: X is driven to CD2 when `direction XOR invert_x` is true, in bit form the direction, address bit 0 and address
bit 4, else to CD1 (R154). -/
def Obligations.XDriveSlot : Prop :=
  ∀ s : State, ∀ v : BridgeState,
    v = (if s.dir ^^ s.addr.getLsbD 0 ^^ s.addr.getLsbD 4 then .cd2 else .cd1) →
      exec .s3Brx s = .next { s with xbr := v, trace := s.trace ++ [.br .x v], upc := 4#5 }

/-- Step 7, slots 5, 6 and 7: the inhibit bridge of a plane is driven when the plane's mask bit is clear, both planes to one state,
CD2 when (y even) xor (direction) is true, else CD1; when the bit is set nothing is emitted; then `W(1)`, always (R157). -/
def Obligations.InhibitDriveSlots : Prop :=
  ∀ s : State, ∀ v : BridgeState,
    v = (if !s.addr.getLsbD 4 ^^ s.dir then .cd2 else .cd1) →
      exec .s5Bri0 s = .next (if s.mask.getLsbD 0 then { s with upc := 6#5 } else
        { s with inh0 := v, trace := s.trace ++ [.br .inh0 v], upc := 6#5 }) ∧
      exec .s6Bri1 s = .next (if s.mask.getLsbD 1 then { s with upc := 7#5 } else
        { s with inh1 := v, trace := s.trace ++ [.br .inh1 v], upc := 7#5 }) ∧
      ∃ q, exec .s7W1a s = .next { s with qcnt := q, trace := s.trace ++ [.w 1], upc := 8#5 }

/-- Step 8, slots 8 and 9: Y is driven to CD1 when the direction is true, else to CD2, by the direction alone; then `W(10)`. Of the
block slot 8 changes YBR and UPC only; of the environment only the sense latch and, under ENV_IDEAL, the cell on the bus (R158; R74). -/
def Obligations.YDriveSlots : Prop :=
  ∀ s : State,
    (∃ t : State, exec .s8Bry s = .next t ∧
      t = { s with
            ybr := (if s.dir then .cd1 else .cd2), upc := 9#5
            trace := s.trace ++ [.br .y (if s.dir then .cd1 else .cd2)]
            cells := t.cells, latch := t.latch, latchFixed := t.latchFixed } ∧
      (s.params.env = .ideal → ∀ a : Addr, a ≠ s.abus → t.memRead a = s.memRead a)) ∧
    ∃ q, exec .s9W10 s = .next { s with qcnt := q, trace := s.trace ++ [.w 10], upc := 10#5 }

/-- Step 9, slots 10 and 11: Y returns to the inert state that OFF_ENC chooses; then `W(1)` (R159). -/
def Obligations.YReleaseSlots : Prop :=
  ∀ s : State, ∀ nc : BridgeState,
    nc = (if s.params.offEnc = .ncb then .ncb else .nca) →
      exec .s10BryOff s = .next { s with ybr := nc, trace := s.trace ++ [.br .y nc], upc := 11#5 } ∧
      ∃ q, exec .s11W1b s = .next { s with qcnt := q, trace := s.trace ++ [.w 1], upc := 12#5 }

/-- Steps 10 and 11, slots 12, 13 and 14: both inhibit bridges and then X return to the inert state that OFF_ENC chooses, in every
pulse, whatever the mask (R160, R161). -/
def Obligations.InhibitAndXReleaseSlots : Prop :=
  ∀ s : State, ∀ nc : BridgeState,
    nc = (if s.params.offEnc = .ncb then .ncb else .nca) →
      exec .s12Bri0Off s = .next { s with inh0 := nc, trace := s.trace ++ [.br .inh0 nc], upc := 13#5 } ∧
      exec .s13Bri1Off s = .next { s with inh1 := nc, trace := s.trace ++ [.br .inh1 nc], upc := 14#5 } ∧
      exec .s14BrxOff s = .next { s with xbr := nc, trace := s.trace ++ [.br .x nc], upc := 15#5 }

/-- Step 12, slots 15 and 16: two waits of 5, two events and not one wait of 10; the pulse is over after the second (R162). -/
def Obligations.TrailingWaitSlots : Prop :=
  ∀ s : State,
    (∃ q, exec .s15W5a s = .next { s with qcnt := q, trace := s.trace ++ [.w 5], upc := 16#5 }) ∧
    ∃ q, exec .s16W5b s = .next { s with qcnt := q, trace := s.trace ++ [.w 5], upc := 17#5 }

/-- ENV_IDEAL, what the full-select of slot 8 does to the cell on the bus: where X conducts, a plane whose inhibit bridge does not
conduct takes the direction and the other keeps its bit (R71, R73, R75); where X does not conduct nothing changes (DEDUCED,
log entry 15). For direction false with an inhibit bridge conducting this is the extension of R72 (DESIGN CHOICE, V8, log
entry 14). -/
def Obligations.FullSelectSetsPlanes : Prop :=
  ∀ s : State, s.params.env = .ideal → ∃ t : State, exec .s8Bry s = .next t ∧
    (conducts s.xbr = false → t.memRead s.abus = s.memRead s.abus) ∧
    (conducts s.xbr = true →
      (t.memRead s.abus).getLsbD 0 = (if conducts s.inh0 then (s.memRead s.abus).getLsbD 0 else s.dir) ∧
      (t.memRead s.abus).getLsbD 1 = (if conducts s.inh1 then (s.memRead s.abus).getLsbD 1 else s.dir))

/-- ENV_IDEAL, the sense latch: `LR(false)` clears it (R76 (a)); at the full-select of slot 8, while it is armed and the direction
is false, a plane that goes from 1 to 0 sets its bit, any other bit stays (R76 (b)); X must conduct (DEDUCED, log entry 15). `latchFixed`
is the model's record of whether R76 fixes what the latch holds, and that captures accumulate over a second such full-select
with no `LR(false)` between is the model's choice (V7, log entry 12). Which planes go to 0 under a partial mask is the
extension of R72 (V8, log entry 14). -/
def Obligations.SenseLatchCaptures : Prop :=
  ∀ s : State, s.params.env = .ideal →
    (s.rl = true → ∃ t : State, exec .s2Lrf s = .next t ∧ t.latch = 0#2 ∧ t.latchFixed = true) ∧
    (conducts s.xbr = true → s.dir = false → s.lrst = true → ∃ t : State, exec .s8Bry s = .next t ∧
      t.latchFixed = s.latchFixed ∧
      t.latch.getLsbD 0 = (s.latch.getLsbD 0 || (s.memRead s.abus).getLsbD 0 && !(t.memRead s.abus).getLsbD 0) ∧
      t.latch.getLsbD 1 = (s.latch.getLsbD 1 || (s.memRead s.abus).getLsbD 1 && !(t.memRead s.abus).getLsbD 1))

/-! ## The sample -/

/-- SS loads VALUE with the pair of levels and the composer starts the restore pulse: direction true, mask the sampled pair, no
latch reset; nothing else of the block changes (R124, R182, R187, R189). ENV_IDEAL: nor does the core plane, and the pair is the
latch, where the spec fixes it (R77). ENV_ANY: any pair; the pair listed for this sample if one is (log entry 13). -/
def Obligations.SampleStartsRestorePulse : Prop :=
  ∀ s : State, ∃ v : Plane2, ∃ rest : List Plane2,
    exec .ss s = .next { s with
      value := v, dir := true, mask := v, rl := false, upc := 0#5, phase := .p2
      trace := s.trace ++ [.ss], senseIn := rest, freeCount := s.freeCount + 1 } ∧
    (s.params.env = .ideal → s.latchFixed = true → v = s.latch) ∧
    (s.params.env = .any → ∀ w ws, s.senseIn = w :: ws → v = w ∧ rest = ws)

/-! ## The commands -/

/-- An idle block accepts a PULSE with the host's operands exactly as given (R180, R181, R182). -/
def Obligations.PulseIsAccepted : Prop :=
  ∀ (s : State) (a : Addr) (d : Bool) (m : Plane2) (r : Bool), s.phase = .idle →
    exec (.pulse a d m r) s =
      .next { s with op := .pulse, addr := a, dir := d, mask := m, rl := r, phase := .p1, upc := 0#5 }

/-- An idle block accepts a WRITE: VALUE is loaded and the clear pulse is handed over (R180, R182, R183). -/
def Obligations.WriteIsAccepted : Prop :=
  ∀ (s : State) (a : Addr) (v : Plane2), s.phase = .idle →
    exec (.write a v) s =
      .next { s with
        op := .write, addr := a, value := v, dir := false, mask := 0b11#2, rl := false, phase := .p1, upc := 0#5 }

/-- An idle block accepts a READ: the destructive read is handed over (R180, R182, R186). -/
def Obligations.ReadIsAccepted : Prop :=
  ∀ (s : State) (a : Addr), s.phase = .idle →
    exec (.read a) s =
      .next { s with op := .read, addr := a, dir := false, mask := 0b11#2, rl := true, phase := .p1, upc := 0#5 }

/-- While the block is busy no command is accepted and nothing changes (R180, R203 (a)). -/
def Obligations.BusyBlockAcceptsNothing : Prop :=
  ∀ (s : State) (a : Addr) (d : Bool) (m v : Plane2) (r : Bool), s.phase ≠ .idle →
    exec (.pulse a d m r) s = .next s ∧ exec (.write a v) s = .next s ∧ exec (.read a) s = .next s

/-- A command word whose `op` is 3 is the reserved instruction, and the model refuses it, in every state (R101). -/
def Obligations.ReservedOpIsRefused : Prop :=
  (∀ w : Word, w &&& 0x3000#16 = 0x3000#16 → decodeCmd w = .reservedOp3) ∧
  ∀ s : State, exec .reservedOp3 s = .refused .reservedOp

/-! ## The step -/

/-- A step runs the decoded instruction, with the inputs moved on around it, which is the model's choice: `rst` to its next level
(log entry 4), `done` low (log entry 21), and an idle block takes the offered word (log entries 2, 3). Three clauses: the offered command word, the slot at UPC, the sample (R28, R50, R180, R187). -/
def Obligations.StepRunsDecodedInstruction : Prop :=
  ∀ s : State, s.rstIn.headD false = false →
    (∀ w ws, s.phase = .idle → s.upc = 0#5 → s.cmdIn = w :: ws →
      step s = exec (decodeCmd w) { s with rstIn := s.rstIn.tail, done := false, cmdIn := ws }) ∧
    (∀ i, (s.phase = .p1 ∨ s.phase = .p2 ∧ s.op ≠ .pulse) → decode (.slot s.upc) = .ok i →
      step s = exec i { s with rstIn := s.rstIn.tail, done := false }) ∧
    (s.phase = .sample → s.op = .read → s.upc = 0#5 →
      step s = exec .ss { s with rstIn := s.rstIn.tail, done := false })

/-- An idle block that is offered nothing stays as it is (R211, R221): no line changes, nothing runs. `done`, an output of R50 that
is high for one clock (R191), is low: that a step stands for the clock is the model's choice (DESIGN CHOICE, log entry 21), as is
the list of `rst` levels, which moves on by one (DESIGN CHOICE, log entry 4). -/
def Obligations.IdleBlockRests : Prop :=
  ∀ s : State, s.rstIn.headD false = false → s.phase = .idle → s.upc = 0#5 → s.cmdIn = [] →
    step s = .next { s with rstIn := s.rstIn.tail, done := false }

/-- The end of a pulse, UPC 17: a PULSE ends; the first pulse of a WRITE is followed by its set pulse; the first pulse of a READ by
the sample; a second pulse ends its operation, with `done`, and a READ delivers `RDATA <- VALUE`. No line changes (R28, R29,
R182, R191). That this is a step of its own, which moves the list of `rst` levels on, and that `done` lasts a step, is the
model's choice (log entries 2, 4, 21). -/
def Obligations.PulseEndReturnsToComposer : Prop :=
  ∀ s u : State, s.rstIn.headD false = false → s.upc = 17#5 → u = { s with rstIn := s.rstIn.tail, done := false, upc := 0#5 } →
    (s.phase = .p1 → s.op = .pulse → step s = .next { u with phase := .idle, done := true }) ∧
    (s.phase = .p1 → s.op = .write →
      step s = .next { u with phase := .p2, dir := true, mask := s.value, rl := false }) ∧
    (s.phase = .p1 → s.op = .read → step s = .next { u with phase := .sample }) ∧
    (s.phase = .p2 → s.op = .write → step s = .next { u with phase := .idle, done := true }) ∧
    (s.phase = .p2 → s.op = .read → step s = .next { u with phase := .idle, done := true, rdata := s.value })

/-- `rst` wins over everything, in every state: the block is idle with UPC and QCNT 0, all 18 output lines are low, no event is
emitted, no command is accepted, parameters stay (R48, R203 (b), R220, R224). ENV_IDEAL: no cell but the addressed one changes, and
none at all when the block was idle (R224, 95_test_vectors 2.8). That `done` is low then and that the list of `rst` levels moves
on by one is the model's choice (log entries 21, 4). -/
def Obligations.ResetWinsOverEverything : Prop :=
  ∀ s : State, s.rstIn.headD false = true → ∃ t : State, step s = .next t ∧
    t.phase = .idle ∧ t.upc = 0#5 ∧ t.qcnt = 0 ∧ t.done = false ∧ (∀ l ∈ t.outputLines, l = false) ∧
    t.trace = s.trace ∧ t.cmdIn = s.cmdIn ∧ t.params = s.params ∧ t.rstIn = s.rstIn.tail ∧
    (s.params.env = .ideal →
      (∀ a : Addr, a ≠ s.addr → t.memRead a = s.memRead a) ∧ (s.phase = .idle → t.cells = s.cells))

/-- From a combination of PHASE, UPC and OP that cannot be reached the block returns to IDLE with all lines low (V11 of
93_implementation_defined; that it does so as `rst` does is the model's choice, log entry 17). -/
def Obligations.UnreachablePlaceReturnsToIdle : Prop :=
  ∀ s : State, s.rstIn.headD false = false → s.onSequence = false → ∃ t : State, step s = .next t ∧
    t.phase = .idle ∧ t.upc = 0#5 ∧ (∀ l ∈ t.outputLines, l = false) ∧ t.trace = s.trace ∧ t.cmdIn = s.cmdIn

/-- The block always has a next step: the one refusal is a reserved command word offered to the idle block (R81, R101,
R200). -/
def Obligations.StepAlwaysAnswers : Prop :=
  ∀ s : State, (∃ t, step s = .next t) ∨
    (step s = .refused .reservedOp ∧ s.phase = .idle ∧
      ∃ w ws, s.cmdIn = w :: ws ∧ w &&& 0x3000#16 = 0x3000#16)

/-- A step emits at most one event, after all the earlier ones, and never a strobe of the debug line (R42, R69, R203). R69 and
R203 give the order of the events and no size of a step: that one step emits at most one of them is the model's choice (DESIGN
CHOICE, log entry 2). -/
def Obligations.StepEmitsAtMostOneEvent : Prop :=
  ∀ s t : State, step s = .next t → t.trace = s.trace ∨ ∃ e, e ≠ .dbg ∧ t.trace = s.trace ++ [e]

/-- The sample is emitted only in phase SAMPLE (R80, R124, R187). -/
def Obligations.SampleOnlyInSamplePhase : Prop :=
  ∀ s t : State, step s = .next t → t.trace = s.trace ++ [.ss] → s.phase = .sample ∧ s.op = .read

/-- Every slot advances UPC by exactly one, and the phase, the operation, the address and the operands of the pulse stay: no branch,
no skip, no backward step (R22, R28). That a slot is one step is the model's choice (log entry 2). -/
def Obligations.SlotAdvancesByOne : Prop :=
  ∀ s : State, s.rstIn.headD false = false → s.onSequence = true → s.inPulse = true → s.upc.toNat ≤ 16 →
    ∃ t : State, step s = .next t ∧ t.upc.toNat = s.upc.toNat + 1 ∧ t.phase = s.phase ∧ t.op = s.op ∧ t.addr = s.addr ∧
      t.dir = s.dir ∧ t.mask = s.mask ∧ t.rl = s.rl ∧ t.value = s.value ∧ t.rdata = s.rdata ∧ t.cmdIn = s.cmdIn

/-- While the block is busy and not reset, OP and ADDR stay, and the words the host holds stay with it (R21, R22, R203 (a)). -/
def Obligations.AddressStableWhileBusy : Prop :=
  ∀ s t : State, s.rstIn.headD false = false → s.onSequence = true → s.busy = true → step s = .next t →
    t.op = s.op ∧ t.addr = s.addr ∧ t.cmdIn = s.cmdIn

/-- RDATA is written only at the end of a READ, with VALUE (R27), but for a reset and an unreachable place, which leave it
unspecified (R48). -/
def Obligations.ResultWrittenOnlyAtReadEnd : Prop :=
  ∀ s t : State, s.rstIn.headD false = false → s.onSequence = true → step s = .next t →
    t.rdata = s.rdata ∨
      (s.phase = .p2 ∧ s.op = .read ∧ s.upc = 17#5 ∧ t.rdata = s.value ∧ t.phase = .idle ∧ t.done = true)

/-- VALUE is written only by the acceptance of a WRITE and by the sample (R26), but for a reset and an unreachable place. -/
def Obligations.ValueWrittenOnlyByWriteAndSample : Prop :=
  ∀ s t : State, s.rstIn.headD false = false → s.onSequence = true → step s = .next t →
    t.value = s.value ∨ s.phase = .sample ∨
      (s.phase = .idle ∧ ∃ a v ws w, s.cmdIn = w :: ws ∧ decodeCmd w = .write a v ∧ t.value = v)

/-- ENV_IDEAL: no step but slot 8 changes a cell, and slot 8 changes none but the one on the bus (R73, R74), but for a reset and an
unreachable place. ENV_IDEAL is a named premise, as R79 asks. -/
def Obligations.OnlyFullSelectChangesCells : Prop :=
  ∀ s t : State, s.params.env = .ideal → s.rstIn.headD false = false → s.onSequence = true → step s = .next t →
    (t.cells = s.cells ∨ (s.inPulse = true ∧ s.upc = 8#5)) ∧
    (∀ a : Addr, a ≠ s.abus → t.memRead a = s.memRead a)

/-- The parameters are fixed before execution (the parameter table of 00_scope section 4, and the word `parameter` of
93_implementation_defined): no step changes one. That they are a record in State is the model's choice (log entry 7). -/
def Obligations.ParametersNeverChange : Prop :=
  ∀ s t : State, step s = .next t → t.params = s.params

/-- A write is masked: an event changes the output register it names and no other (R121, R122, R123, R128). -/
def Obligations.EventWritesItsOwnRegister : Prop :=
  ∀ (s : State) (e : Event),
    (s.emit e).abus = (match e with | .ab b => b | _ => s.abus) ∧
    (s.emit e).xbr = (match e with | .br .x v => v | _ => s.xbr) ∧
    (s.emit e).ybr = (match e with | .br .y v => v | _ => s.ybr) ∧
    (s.emit e).inh0 = (match e with | .br .inh0 v => v | _ => s.inh0) ∧
    (s.emit e).inh1 = (match e with | .br .inh1 v => v | _ => s.inh1) ∧
    (s.emit e).lrst = (match e with | .lr v => v | _ => s.lrst) ∧
    (s.emit e).dbgl = (match e with | .dbg => false | _ => s.dbgl)

/-! ## Invariants -/

/-- After reset: UPC 0, IDLE, all 18 lines low, QCNT 0, no event emitted; the block is ready for a command (R48, R220). -/
def Obligations.ResetLeavesLinesLow : Prop :=
  State.reset.upc = 0#5 ∧ State.reset.phase = .idle ∧ (∀ l ∈ State.reset.outputLines, l = false) ∧
  State.reset.xbr = .nca ∧ State.reset.ybr = .nca ∧ State.reset.inh0 = .nca ∧ State.reset.inh1 = .nca ∧
  State.reset.abus = 0x00#8 ∧ State.reset.lrst = false ∧ State.reset.dbgl = false ∧ State.reset.qcnt = 0 ∧
  State.reset.trace = [] ∧ State.reset.ports.cmdReady = true

/-- The invariants hold at reset (R44, R222). -/
def Obligations.ResetIsSafe : Prop := State.reset.Safe

/-- Every step keeps the sequence invariant: the place is legal, each bridge conducts exactly in its window of the pulse and in the
pulse's direction, the operands are the handed-over ones, the bus holds the address, the latch is armed (R28, R29, R44, R167,
R171, R182). -/
def Obligations.StepKeepsSequence : Prop :=
  ∀ s t : State, s.SequenceInv → step s = .next t → t.SequenceInv

/-- Every step keeps the debug line low and leaves no wait under way (R42, R242). -/
def Obligations.StepKeepsLinesQuiet : Prop :=
  ∀ s t : State, s.LinesQuiet → step s = .next t → t.LinesQuiet

/-- Every step keeps the core plane's list in canonical form: rising addresses below 256, 2-bit contents (R60, R61). -/
def Obligations.StepKeepsCorePlaneCanonical : Prop :=
  ∀ s t : State, s.cells.wf = true → step s = .next t → t.cells.wf = true

/-- No bridge conducts when the block is idle, in the sample, or at the start or the end of a pulse (R44, R166, R187, R243). -/
def Obligations.NoBridgeConductsBetweenPulses : Prop :=
  ∀ s : State, s.SequenceInv → (s.inPulse = false ∨ s.upc = 0#5 ∨ s.upc = 17#5) →
    conducts s.xbr = false ∧ conducts s.ybr = false ∧ conducts s.inh0 = false ∧ conducts s.inh1 = false

/-- Y conducts only while X conducts and while every inhibit bridge of the pulse conducts; two conducting inhibit bridges are in
one state (R157, R167). -/
def Obligations.ConductionWindowsNest : Prop :=
  ∀ s : State, s.SequenceInv →
    (conducts s.ybr = true → conducts s.xbr = true ∧ conducts s.inh0 = !s.mask.getLsbD 0 ∧
      conducts s.inh1 = !s.mask.getLsbD 1) ∧
    (conducts s.inh0 = true ∨ conducts s.inh1 = true → conducts s.xbr = true) ∧
    (conducts s.inh0 = true → conducts s.inh1 = true → s.inh0 = s.inh1)

/-! ## Traces of whole operations (R168, R184, R188, R240) -/

/-- A pulse has 14 + r + (2 − popcount(m)) events, from 14 to 17, the six waits 2, 1, 10, 1, 5, 5 in that order, 24 quanta (R168,
R240). The number of steps is the model's (log entry 2). -/
def Obligations.PulseTraceCounts : Prop :=
  ∀ (s : State) (w : Word) (ws : List Word) (a : Addr) (d : Bool) (m : Plane2) (r : Bool),
    s.phase = .idle → s.upc = 0#5 → s.noReset 19 → s.cmdIn = w :: ws → decodeCmd w = .pulse a d m r →
    ∃ (t : State) (es : List Event), runSteps 19 s = .next t ∧ t.trace = s.trace ++ es ∧
      es.length = 14 + r.toNat + (2 - ((m.getLsbD 0).toNat + (m.getLsbD 1).toNat)) ∧
      14 ≤ es.length ∧ es.length ≤ 17 ∧ waitsOf es = [2, 1, 10, 1, 5, 5] ∧ quantaOf es = 24 ∧
      (s.params.quantumNs = 100 → durationNs s.params es = 2400)

/-- `write` is 28 to 30 events and 48 quanta, which at 100 ns is at least 4800 ns (R184, R240). The number of steps is the
model's (log entry 2). -/
def Obligations.WriteTraceCounts : Prop :=
  ∀ (s : State) (w : Word) (ws : List Word) (a : Addr) (v : Plane2),
    s.phase = .idle → s.upc = 0#5 → s.noReset 37 → s.cmdIn = w :: ws → decodeCmd w = .write a v →
    ∃ (t : State) (es : List Event), runSteps 37 s = .next t ∧ t.trace = s.trace ++ es ∧
      es.length = 28 + (2 - ((v.getLsbD 0).toNat + (v.getLsbD 1).toNat)) ∧ quantaOf es = 48 ∧
      (s.params.quantumNs = 100 → durationNs s.params es = 4800)

/-- `read` is 30 to 32 events, by the pair it samples, and 48 quanta, which at 100 ns is at least 4800 ns (R188, R240).
The number of steps is the model's (log entry 2). -/
def Obligations.ReadTraceCounts : Prop :=
  ∀ (s : State) (w : Word) (ws : List Word) (a : Addr),
    s.phase = .idle → s.upc = 0#5 → s.noReset 38 → s.cmdIn = w :: ws → decodeCmd w = .read a →
    ∃ (t : State) (es : List Event), runSteps 38 s = .next t ∧ t.trace = s.trace ++ es ∧
      es.length = 30 + (2 - ((t.rdata.getLsbD 0).toNat + (t.rdata.getLsbD 1).toNat)) ∧ quantaOf es = 48 ∧
      (s.params.quantumNs = 100 → durationNs s.params es = 4800)

/-- Least conduction times of a pulse, from its waits, in quanta: Y 10, X 12, an inhibit bridge 12 when its mask bit is clear and 0
when it is set (R167, R240). The number of steps is the model's (log entry 2). -/
def Obligations.ConductionTimes : Prop :=
  ∀ (s : State) (w : Word) (ws : List Word) (a : Addr) (d : Bool) (m : Plane2) (r : Bool),
    s.phase = .idle → s.upc = 0#5 → s.noReset 19 → s.cmdIn = w :: ws → decodeCmd w = .pulse a d m r →
    ∃ (t : State) (es : List Event), runSteps 19 s = .next t ∧ t.trace = s.trace ++ es ∧
      conductionQuanta .y false es = 10 ∧ conductionQuanta .x false es = 12 ∧
      conductionQuanta .inh0 false es = (if m.getLsbD 0 then 0 else 12) ∧
      conductionQuanta .inh1 false es = (if m.getLsbD 1 then 0 else 12)

/-! ## Commands run to their end -/

/-- An offered PULSE runs to its end in 19 steps, whatever its operands: the trace is that of R176, every bridge is inert, the bus
holds the address, the latch-reset line is asserted, VALUE and RDATA are untouched (R166, R169, R171, R176, R181, R191), and,
with ENV_IDEAL as a premise (R79), no cell elsewhere changes (R74). The number of steps is the model's (log entry 2). -/
def Obligations.PulseCommandRunsToEnd : Prop :=
  ∀ (s : State) (w : Word) (ws : List Word) (a : Addr) (d : Bool) (m : Plane2) (r : Bool),
    s.phase = .idle → s.upc = 0#5 → s.noReset 19 → s.cmdIn = w :: ws → decodeCmd w = .pulse a d m r →
    ∃ t : State, runSteps 19 s = .next t ∧
      t.trace = s.trace ++ pulseTrace s.params a d m r ∧ t.phase = .idle ∧ t.upc = 0#5 ∧ t.done = true ∧
      t.op = .pulse ∧ t.addr = a ∧ t.dir = d ∧ t.mask = m ∧ t.rl = r ∧ t.value = s.value ∧ t.rdata = s.rdata ∧
      t.xbr = noConduction s.params ∧ t.ybr = noConduction s.params ∧ t.inh0 = noConduction s.params ∧
      t.inh1 = noConduction s.params ∧ t.abus = a ∧ t.lrst = true ∧ t.dbgl = s.dbgl ∧ t.qcnt = 0 ∧ t.cmdIn = ws ∧
      t.params = s.params ∧ (s.params.env = .ideal → ∀ b : Addr, b ≠ a → t.memRead b = s.memRead b)

/-- An offered WRITE runs to its end in 37 steps: exactly two pulses whatever the value, clear then set (R183, R184, R191);
with ENV_IDEAL as a premise (R79), no cell elsewhere changes (R74). The number of steps is the model's (log entry 2). -/
def Obligations.WriteCommandRunsToEnd : Prop :=
  ∀ (s : State) (w : Word) (ws : List Word) (a : Addr) (v : Plane2),
    s.phase = .idle → s.upc = 0#5 → s.noReset 37 → s.cmdIn = w :: ws → decodeCmd w = .write a v →
    ∃ t : State, runSteps 37 s = .next t ∧
      t.trace = s.trace ++ writeTrace s.params a v ∧ t.phase = .idle ∧ t.upc = 0#5 ∧ t.done = true ∧
      t.op = .write ∧ t.addr = a ∧ t.dir = true ∧ t.mask = v ∧ t.rl = false ∧ t.value = v ∧ t.rdata = s.rdata ∧
      t.xbr = noConduction s.params ∧ t.ybr = noConduction s.params ∧ t.inh0 = noConduction s.params ∧
      t.inh1 = noConduction s.params ∧ t.abus = a ∧ t.lrst = true ∧ t.cmdIn = ws ∧
      (s.params.env = .ideal → ∀ b : Addr, b ≠ a → t.memRead b = s.memRead b)

/-- An offered READ runs to its end in 38 steps under every environment: for the pair `v` the sample answers, the restore pulse
carries `v` as its mask and RDATA is `v` (R186, R188, R189, R191); under ENV_ANY `v` is the pair listed for the sample, if one
is (log entry 13); with ENV_IDEAL as a premise (R79), no cell elsewhere changes (R74). The number of steps is the model's (log
entry 2). -/
def Obligations.ReadCommandRunsToEnd : Prop :=
  ∀ (s : State) (w : Word) (ws : List Word) (a : Addr),
    s.phase = .idle → s.upc = 0#5 → s.noReset 38 → s.cmdIn = w :: ws → decodeCmd w = .read a →
    ∃ (t : State) (v : Plane2), runSteps 38 s = .next t ∧
      t.trace = s.trace ++ readTrace s.params a v ∧ t.phase = .idle ∧ t.upc = 0#5 ∧ t.done = true ∧
      t.op = .read ∧ t.addr = a ∧ t.dir = true ∧ t.mask = v ∧ t.rl = false ∧ t.value = v ∧ t.rdata = v ∧
      t.xbr = noConduction s.params ∧ t.ybr = noConduction s.params ∧ t.inh0 = noConduction s.params ∧
      t.inh1 = noConduction s.params ∧ t.abus = a ∧ t.lrst = true ∧ t.cmdIn = ws ∧
      (s.params.env = .ideal → ∀ b : Addr, b ≠ a → t.memRead b = s.memRead b) ∧
      (s.params.env = .any → ∀ u us, s.senseIn = u :: us → v = u)

/-- ENV_IDEAL, a whole PULSE: each plane whose mask bit is set takes the direction, the other keeps its bit (R71). For the shapes
the source never issues this is the extension of R72 (log entry 14). The number of steps is the model's (log entry 2). -/
def Obligations.IdealPulseSetsMaskedPlanes : Prop :=
  ∀ (s : State) (w : Word) (ws : List Word) (a : Addr) (d : Bool) (m : Plane2) (r : Bool),
    s.params.env = .ideal → s.SequenceInv → s.phase = .idle → s.noReset 19 → s.cmdIn = w :: ws →
    decodeCmd w = .pulse a d m r →
    ∃ t : State, runSteps 19 s = .next t ∧ t.phase = .idle ∧
      (t.memRead a).getLsbD 0 = (if m.getLsbD 0 then d else (s.memRead a).getLsbD 0) ∧
      (t.memRead a).getLsbD 1 = (if m.getLsbD 1 then d else (s.memRead a).getLsbD 1) ∧
      ∀ b : Addr, b ≠ a → t.memRead b = s.memRead b

/-- ENV_IDEAL: after `write(a, v)` the cell at `a` holds `v`, whatever it held, and every other cell is unchanged (R78 (a),
R184). The number of steps is the model's (log entry 2). -/
def Obligations.IdealWriteStoresValue : Prop :=
  ∀ (s : State) (w : Word) (ws : List Word) (a : Addr) (v : Plane2),
    s.params.env = .ideal → s.SequenceInv → s.phase = .idle → s.noReset 37 → s.cmdIn = w :: ws →
    decodeCmd w = .write a v →
    ∃ t : State, runSteps 37 s = .next t ∧ t.phase = .idle ∧ t.memRead a = v ∧
      ∀ b : Addr, b ≠ a → t.memRead b = s.memRead b

/-- ENV_IDEAL: `read(a)` returns what the cell held and leaves it there; every other cell is unchanged (R78 (b), R189).
The number of steps is the model's (log entry 2). -/
def Obligations.IdealReadReturnsAndRestores : Prop :=
  ∀ (s : State) (w : Word) (ws : List Word) (a : Addr),
    s.params.env = .ideal → s.SequenceInv → s.phase = .idle → s.noReset 38 → s.cmdIn = w :: ws →
    decodeCmd w = .read a →
    ∃ t : State, runSteps 38 s = .next t ∧ t.phase = .idle ∧ t.rdata = s.memRead a ∧ t.memRead a = s.memRead a ∧
      ∀ b : Addr, b ≠ a → t.memRead b = s.memRead b

/-- ENV_IDEAL, restore idempotence: after `write(a, v)` a `read(a)` returns `v` and a second immediate `read(a)` returns `v`
again; no cell at any other address changes (R78 (c), R189, R192). The numbers of steps are the model's (log entry 2). -/
def Obligations.IdealRestoreIdempotence : Prop :=
  ∀ (s : State) (w w1 w2 : Word) (ws : List Word) (a : Addr) (v : Plane2),
    s.params.env = .ideal → s.SequenceInv → s.phase = .idle → s.noReset 113 → s.cmdIn = w :: w1 :: w2 :: ws →
    decodeCmd w = .write a v → decodeCmd w1 = .read a → decodeCmd w2 = .read a →
    ∃ t u : State, runSteps 75 s = .next t ∧ t.phase = .idle ∧ t.rdata = v ∧
      runSteps 38 t = .next u ∧ u.phase = .idle ∧ u.rdata = v ∧ u.memRead a = v ∧ u.cmdIn = ws ∧
      ∀ b : Addr, b ≠ a → u.memRead b = s.memRead b

/-! ## The environment -/

/-- The environment reaches the block by the sample alone: two states with the same block take, outside SAMPLE, steps to states
with the same block, however their core planes, latches, sense inputs and environments differ (R80, R172). -/
def Obligations.EnvironmentSeenOnlyBySample : Prop :=
  ∀ s t s' : State, SameBlock s t → s.phase ≠ .sample → step s = .next s' →
    ∃ t' : State, step t = .next t' ∧ SameBlock s' t'
end

