-- ==== Sys2Proof/Laws/Decode.lean ====
section
/-! SUPPORT. The fields of a packed command word, and a word packed from its fields. -/

namespace Sys2Proof

theorem packCmd_getLsbD (op : BitVec 2) (rl dir : Bool) (val : Plane2) (addr : Addr) (i : Nat) :
    (packCmd op rl dir val addr).getLsbD i =
      if i < 8 then addr.getLsbD i
      else if i < 10 then val.getLsbD (i - 8)
      else if i = 10 then dir
      else if i = 11 then rl
      else if i < 14 then op.getLsbD (i - 12)
      else false := by
  simp only [packCmd, BitVec.getLsbD_append, BitVec.getLsbD_ofBool, BitVec.getLsbD_zero]
  split_ifs <;> first | rfl | omega | simp_all

@[simp] theorem fieldOp_packCmd (op : BitVec 2) (rl dir : Bool) (val : Plane2) (addr : Addr) :
    fieldOp (packCmd op rl dir val addr) = op := by
  apply BitVec.eq_of_getLsbD_eq
  intro i hi
  simp only [fieldOp, BitVec.getLsbD_extractLsb', packCmd_getLsbD]
  interval_cases i <;> rfl

@[simp] theorem fieldRl_packCmd (op : BitVec 2) (rl dir : Bool) (val : Plane2) (addr : Addr) :
    fieldRl (packCmd op rl dir val addr) = rl := by
  rw [fieldRl, packCmd_getLsbD]
  rfl

@[simp] theorem fieldDir_packCmd (op : BitVec 2) (rl dir : Bool) (val : Plane2) (addr : Addr) :
    fieldDir (packCmd op rl dir val addr) = dir := by
  rw [fieldDir, packCmd_getLsbD]
  rfl

@[simp] theorem fieldVal_packCmd (op : BitVec 2) (rl dir : Bool) (val : Plane2) (addr : Addr) :
    fieldVal (packCmd op rl dir val addr) = val := by
  apply BitVec.eq_of_getLsbD_eq
  intro i hi
  simp only [fieldVal, BitVec.getLsbD_extractLsb', packCmd_getLsbD]
  interval_cases i <;> rfl

@[simp] theorem fieldAddr_packCmd (op : BitVec 2) (rl dir : Bool) (val : Plane2) (addr : Addr) :
    fieldAddr (packCmd op rl dir val addr) = addr := by
  apply BitVec.eq_of_getLsbD_eq
  intro i hi
  simp only [fieldAddr, BitVec.getLsbD_extractLsb', packCmd_getLsbD]
  simp [hi]

/-- A word packed from its own fields is the word with bits 15:14 cleared. -/
theorem packCmd_fields (w : Word) :
    packCmd (fieldOp w) (fieldRl w) (fieldDir w) (fieldVal w) (fieldAddr w) = w &&& 0x3FFF#16 := by
  apply BitVec.eq_of_getLsbD_eq
  intro i hi
  simp only [packCmd_getLsbD, fieldOp, fieldRl, fieldDir, fieldVal, fieldAddr, BitVec.getLsbD_extractLsb',
    BitVec.getLsbD_and]
  interval_cases i <;> simp

/-- The table's match under its mask is the `op` field (R92 to R94, R101). -/
theorem and_mask_iff_fieldOp (w : Word) (k : BitVec 2) : w &&& 0x3000#16 = k.setWidth 16 <<< 12 ↔ fieldOp w = k := by
  constructor
  · intro h
    apply BitVec.eq_of_getLsbD_eq
    intro i hi
    have hb := congrArg (fun x => x.getLsbD (12 + i)) h
    interval_cases i <;> simpa [fieldOp, BitVec.getLsbD_extractLsb'] using hb
  · rintro rfl
    apply BitVec.eq_of_getLsbD_eq
    intro i hi
    interval_cases i <;> simp [fieldOp]

end Sys2Proof
end

