-- ==== Sys2Proof/Laws/State.lean ====
section
/-! SUPPORT. One lemma per field per update of the state, so that no proof unfolds a record update. -/

namespace Sys2Proof.Machine

/-! ## `setUpc` -/

@[simp] theorem State.setUpc_params (s : State) (v : Upc) : (s.setUpc v).params = s.params := rfl
@[simp] theorem State.setUpc_op (s : State) (v : Upc) : (s.setUpc v).op = s.op := rfl
@[simp] theorem State.setUpc_addr (s : State) (v : Upc) : (s.setUpc v).addr = s.addr := rfl
@[simp] theorem State.setUpc_dir (s : State) (v : Upc) : (s.setUpc v).dir = s.dir := rfl
@[simp] theorem State.setUpc_mask (s : State) (v : Upc) : (s.setUpc v).mask = s.mask := rfl
@[simp] theorem State.setUpc_rl (s : State) (v : Upc) : (s.setUpc v).rl = s.rl := rfl
@[simp] theorem State.setUpc_value (s : State) (v : Upc) : (s.setUpc v).value = s.value := rfl
@[simp] theorem State.setUpc_rdata (s : State) (v : Upc) : (s.setUpc v).rdata = s.rdata := rfl
@[simp] theorem State.setUpc_upc (s : State) (v : Upc) : (s.setUpc v).upc = v := rfl
@[simp] theorem State.setUpc_phase (s : State) (v : Upc) : (s.setUpc v).phase = s.phase := rfl
@[simp] theorem State.setUpc_xbr (s : State) (v : Upc) : (s.setUpc v).xbr = s.xbr := rfl
@[simp] theorem State.setUpc_ybr (s : State) (v : Upc) : (s.setUpc v).ybr = s.ybr := rfl
@[simp] theorem State.setUpc_inh0 (s : State) (v : Upc) : (s.setUpc v).inh0 = s.inh0 := rfl
@[simp] theorem State.setUpc_inh1 (s : State) (v : Upc) : (s.setUpc v).inh1 = s.inh1 := rfl
@[simp] theorem State.setUpc_abus (s : State) (v : Upc) : (s.setUpc v).abus = s.abus := rfl
@[simp] theorem State.setUpc_lrst (s : State) (v : Upc) : (s.setUpc v).lrst = s.lrst := rfl
@[simp] theorem State.setUpc_dbgl (s : State) (v : Upc) : (s.setUpc v).dbgl = s.dbgl := rfl
@[simp] theorem State.setUpc_qcnt (s : State) (v : Upc) : (s.setUpc v).qcnt = s.qcnt := rfl
@[simp] theorem State.setUpc_done (s : State) (v : Upc) : (s.setUpc v).done = s.done := rfl
@[simp] theorem State.setUpc_cells (s : State) (v : Upc) : (s.setUpc v).cells = s.cells := rfl
@[simp] theorem State.setUpc_latch (s : State) (v : Upc) : (s.setUpc v).latch = s.latch := rfl
@[simp] theorem State.setUpc_latchFixed (s : State) (v : Upc) : (s.setUpc v).latchFixed = s.latchFixed := rfl
@[simp] theorem State.setUpc_trace (s : State) (v : Upc) : (s.setUpc v).trace = s.trace := rfl
@[simp] theorem State.setUpc_rstIn (s : State) (v : Upc) : (s.setUpc v).rstIn = s.rstIn := rfl
@[simp] theorem State.setUpc_cmdIn (s : State) (v : Upc) : (s.setUpc v).cmdIn = s.cmdIn := rfl
@[simp] theorem State.setUpc_senseIn (s : State) (v : Upc) : (s.setUpc v).senseIn = s.senseIn := rfl
@[simp] theorem State.setUpc_freeCount (s : State) (v : Upc) : (s.setUpc v).freeCount = s.freeCount := rfl

/-! ## `setXbr` -/

@[simp] theorem State.setXbr_params (s : State) (v : BridgeState) : (s.setXbr v).params = s.params := rfl
@[simp] theorem State.setXbr_op (s : State) (v : BridgeState) : (s.setXbr v).op = s.op := rfl
@[simp] theorem State.setXbr_addr (s : State) (v : BridgeState) : (s.setXbr v).addr = s.addr := rfl
@[simp] theorem State.setXbr_dir (s : State) (v : BridgeState) : (s.setXbr v).dir = s.dir := rfl
@[simp] theorem State.setXbr_mask (s : State) (v : BridgeState) : (s.setXbr v).mask = s.mask := rfl
@[simp] theorem State.setXbr_rl (s : State) (v : BridgeState) : (s.setXbr v).rl = s.rl := rfl
@[simp] theorem State.setXbr_value (s : State) (v : BridgeState) : (s.setXbr v).value = s.value := rfl
@[simp] theorem State.setXbr_rdata (s : State) (v : BridgeState) : (s.setXbr v).rdata = s.rdata := rfl
@[simp] theorem State.setXbr_upc (s : State) (v : BridgeState) : (s.setXbr v).upc = s.upc := rfl
@[simp] theorem State.setXbr_phase (s : State) (v : BridgeState) : (s.setXbr v).phase = s.phase := rfl
@[simp] theorem State.setXbr_xbr (s : State) (v : BridgeState) : (s.setXbr v).xbr = v := rfl
@[simp] theorem State.setXbr_ybr (s : State) (v : BridgeState) : (s.setXbr v).ybr = s.ybr := rfl
@[simp] theorem State.setXbr_inh0 (s : State) (v : BridgeState) : (s.setXbr v).inh0 = s.inh0 := rfl
@[simp] theorem State.setXbr_inh1 (s : State) (v : BridgeState) : (s.setXbr v).inh1 = s.inh1 := rfl
@[simp] theorem State.setXbr_abus (s : State) (v : BridgeState) : (s.setXbr v).abus = s.abus := rfl
@[simp] theorem State.setXbr_lrst (s : State) (v : BridgeState) : (s.setXbr v).lrst = s.lrst := rfl
@[simp] theorem State.setXbr_dbgl (s : State) (v : BridgeState) : (s.setXbr v).dbgl = s.dbgl := rfl
@[simp] theorem State.setXbr_qcnt (s : State) (v : BridgeState) : (s.setXbr v).qcnt = s.qcnt := rfl
@[simp] theorem State.setXbr_done (s : State) (v : BridgeState) : (s.setXbr v).done = s.done := rfl
@[simp] theorem State.setXbr_cells (s : State) (v : BridgeState) : (s.setXbr v).cells = s.cells := rfl
@[simp] theorem State.setXbr_latch (s : State) (v : BridgeState) : (s.setXbr v).latch = s.latch := rfl
@[simp] theorem State.setXbr_latchFixed (s : State) (v : BridgeState) : (s.setXbr v).latchFixed = s.latchFixed := rfl
@[simp] theorem State.setXbr_trace (s : State) (v : BridgeState) : (s.setXbr v).trace = s.trace := rfl
@[simp] theorem State.setXbr_rstIn (s : State) (v : BridgeState) : (s.setXbr v).rstIn = s.rstIn := rfl
@[simp] theorem State.setXbr_cmdIn (s : State) (v : BridgeState) : (s.setXbr v).cmdIn = s.cmdIn := rfl
@[simp] theorem State.setXbr_senseIn (s : State) (v : BridgeState) : (s.setXbr v).senseIn = s.senseIn := rfl
@[simp] theorem State.setXbr_freeCount (s : State) (v : BridgeState) : (s.setXbr v).freeCount = s.freeCount := rfl

/-! ## `setYbr` -/

@[simp] theorem State.setYbr_params (s : State) (v : BridgeState) : (s.setYbr v).params = s.params := rfl
@[simp] theorem State.setYbr_op (s : State) (v : BridgeState) : (s.setYbr v).op = s.op := rfl
@[simp] theorem State.setYbr_addr (s : State) (v : BridgeState) : (s.setYbr v).addr = s.addr := rfl
@[simp] theorem State.setYbr_dir (s : State) (v : BridgeState) : (s.setYbr v).dir = s.dir := rfl
@[simp] theorem State.setYbr_mask (s : State) (v : BridgeState) : (s.setYbr v).mask = s.mask := rfl
@[simp] theorem State.setYbr_rl (s : State) (v : BridgeState) : (s.setYbr v).rl = s.rl := rfl
@[simp] theorem State.setYbr_value (s : State) (v : BridgeState) : (s.setYbr v).value = s.value := rfl
@[simp] theorem State.setYbr_rdata (s : State) (v : BridgeState) : (s.setYbr v).rdata = s.rdata := rfl
@[simp] theorem State.setYbr_upc (s : State) (v : BridgeState) : (s.setYbr v).upc = s.upc := rfl
@[simp] theorem State.setYbr_phase (s : State) (v : BridgeState) : (s.setYbr v).phase = s.phase := rfl
@[simp] theorem State.setYbr_xbr (s : State) (v : BridgeState) : (s.setYbr v).xbr = s.xbr := rfl
@[simp] theorem State.setYbr_ybr (s : State) (v : BridgeState) : (s.setYbr v).ybr = v := rfl
@[simp] theorem State.setYbr_inh0 (s : State) (v : BridgeState) : (s.setYbr v).inh0 = s.inh0 := rfl
@[simp] theorem State.setYbr_inh1 (s : State) (v : BridgeState) : (s.setYbr v).inh1 = s.inh1 := rfl
@[simp] theorem State.setYbr_abus (s : State) (v : BridgeState) : (s.setYbr v).abus = s.abus := rfl
@[simp] theorem State.setYbr_lrst (s : State) (v : BridgeState) : (s.setYbr v).lrst = s.lrst := rfl
@[simp] theorem State.setYbr_dbgl (s : State) (v : BridgeState) : (s.setYbr v).dbgl = s.dbgl := rfl
@[simp] theorem State.setYbr_qcnt (s : State) (v : BridgeState) : (s.setYbr v).qcnt = s.qcnt := rfl
@[simp] theorem State.setYbr_done (s : State) (v : BridgeState) : (s.setYbr v).done = s.done := rfl
@[simp] theorem State.setYbr_cells (s : State) (v : BridgeState) : (s.setYbr v).cells = s.cells := rfl
@[simp] theorem State.setYbr_latch (s : State) (v : BridgeState) : (s.setYbr v).latch = s.latch := rfl
@[simp] theorem State.setYbr_latchFixed (s : State) (v : BridgeState) : (s.setYbr v).latchFixed = s.latchFixed := rfl
@[simp] theorem State.setYbr_trace (s : State) (v : BridgeState) : (s.setYbr v).trace = s.trace := rfl
@[simp] theorem State.setYbr_rstIn (s : State) (v : BridgeState) : (s.setYbr v).rstIn = s.rstIn := rfl
@[simp] theorem State.setYbr_cmdIn (s : State) (v : BridgeState) : (s.setYbr v).cmdIn = s.cmdIn := rfl
@[simp] theorem State.setYbr_senseIn (s : State) (v : BridgeState) : (s.setYbr v).senseIn = s.senseIn := rfl
@[simp] theorem State.setYbr_freeCount (s : State) (v : BridgeState) : (s.setYbr v).freeCount = s.freeCount := rfl

/-! ## `setInh0` -/

@[simp] theorem State.setInh0_params (s : State) (v : BridgeState) : (s.setInh0 v).params = s.params := rfl
@[simp] theorem State.setInh0_op (s : State) (v : BridgeState) : (s.setInh0 v).op = s.op := rfl
@[simp] theorem State.setInh0_addr (s : State) (v : BridgeState) : (s.setInh0 v).addr = s.addr := rfl
@[simp] theorem State.setInh0_dir (s : State) (v : BridgeState) : (s.setInh0 v).dir = s.dir := rfl
@[simp] theorem State.setInh0_mask (s : State) (v : BridgeState) : (s.setInh0 v).mask = s.mask := rfl
@[simp] theorem State.setInh0_rl (s : State) (v : BridgeState) : (s.setInh0 v).rl = s.rl := rfl
@[simp] theorem State.setInh0_value (s : State) (v : BridgeState) : (s.setInh0 v).value = s.value := rfl
@[simp] theorem State.setInh0_rdata (s : State) (v : BridgeState) : (s.setInh0 v).rdata = s.rdata := rfl
@[simp] theorem State.setInh0_upc (s : State) (v : BridgeState) : (s.setInh0 v).upc = s.upc := rfl
@[simp] theorem State.setInh0_phase (s : State) (v : BridgeState) : (s.setInh0 v).phase = s.phase := rfl
@[simp] theorem State.setInh0_xbr (s : State) (v : BridgeState) : (s.setInh0 v).xbr = s.xbr := rfl
@[simp] theorem State.setInh0_ybr (s : State) (v : BridgeState) : (s.setInh0 v).ybr = s.ybr := rfl
@[simp] theorem State.setInh0_inh0 (s : State) (v : BridgeState) : (s.setInh0 v).inh0 = v := rfl
@[simp] theorem State.setInh0_inh1 (s : State) (v : BridgeState) : (s.setInh0 v).inh1 = s.inh1 := rfl
@[simp] theorem State.setInh0_abus (s : State) (v : BridgeState) : (s.setInh0 v).abus = s.abus := rfl
@[simp] theorem State.setInh0_lrst (s : State) (v : BridgeState) : (s.setInh0 v).lrst = s.lrst := rfl
@[simp] theorem State.setInh0_dbgl (s : State) (v : BridgeState) : (s.setInh0 v).dbgl = s.dbgl := rfl
@[simp] theorem State.setInh0_qcnt (s : State) (v : BridgeState) : (s.setInh0 v).qcnt = s.qcnt := rfl
@[simp] theorem State.setInh0_done (s : State) (v : BridgeState) : (s.setInh0 v).done = s.done := rfl
@[simp] theorem State.setInh0_cells (s : State) (v : BridgeState) : (s.setInh0 v).cells = s.cells := rfl
@[simp] theorem State.setInh0_latch (s : State) (v : BridgeState) : (s.setInh0 v).latch = s.latch := rfl
@[simp] theorem State.setInh0_latchFixed (s : State) (v : BridgeState) : (s.setInh0 v).latchFixed = s.latchFixed := rfl
@[simp] theorem State.setInh0_trace (s : State) (v : BridgeState) : (s.setInh0 v).trace = s.trace := rfl
@[simp] theorem State.setInh0_rstIn (s : State) (v : BridgeState) : (s.setInh0 v).rstIn = s.rstIn := rfl
@[simp] theorem State.setInh0_cmdIn (s : State) (v : BridgeState) : (s.setInh0 v).cmdIn = s.cmdIn := rfl
@[simp] theorem State.setInh0_senseIn (s : State) (v : BridgeState) : (s.setInh0 v).senseIn = s.senseIn := rfl
@[simp] theorem State.setInh0_freeCount (s : State) (v : BridgeState) : (s.setInh0 v).freeCount = s.freeCount := rfl

/-! ## `setInh1` -/

@[simp] theorem State.setInh1_params (s : State) (v : BridgeState) : (s.setInh1 v).params = s.params := rfl
@[simp] theorem State.setInh1_op (s : State) (v : BridgeState) : (s.setInh1 v).op = s.op := rfl
@[simp] theorem State.setInh1_addr (s : State) (v : BridgeState) : (s.setInh1 v).addr = s.addr := rfl
@[simp] theorem State.setInh1_dir (s : State) (v : BridgeState) : (s.setInh1 v).dir = s.dir := rfl
@[simp] theorem State.setInh1_mask (s : State) (v : BridgeState) : (s.setInh1 v).mask = s.mask := rfl
@[simp] theorem State.setInh1_rl (s : State) (v : BridgeState) : (s.setInh1 v).rl = s.rl := rfl
@[simp] theorem State.setInh1_value (s : State) (v : BridgeState) : (s.setInh1 v).value = s.value := rfl
@[simp] theorem State.setInh1_rdata (s : State) (v : BridgeState) : (s.setInh1 v).rdata = s.rdata := rfl
@[simp] theorem State.setInh1_upc (s : State) (v : BridgeState) : (s.setInh1 v).upc = s.upc := rfl
@[simp] theorem State.setInh1_phase (s : State) (v : BridgeState) : (s.setInh1 v).phase = s.phase := rfl
@[simp] theorem State.setInh1_xbr (s : State) (v : BridgeState) : (s.setInh1 v).xbr = s.xbr := rfl
@[simp] theorem State.setInh1_ybr (s : State) (v : BridgeState) : (s.setInh1 v).ybr = s.ybr := rfl
@[simp] theorem State.setInh1_inh0 (s : State) (v : BridgeState) : (s.setInh1 v).inh0 = s.inh0 := rfl
@[simp] theorem State.setInh1_inh1 (s : State) (v : BridgeState) : (s.setInh1 v).inh1 = v := rfl
@[simp] theorem State.setInh1_abus (s : State) (v : BridgeState) : (s.setInh1 v).abus = s.abus := rfl
@[simp] theorem State.setInh1_lrst (s : State) (v : BridgeState) : (s.setInh1 v).lrst = s.lrst := rfl
@[simp] theorem State.setInh1_dbgl (s : State) (v : BridgeState) : (s.setInh1 v).dbgl = s.dbgl := rfl
@[simp] theorem State.setInh1_qcnt (s : State) (v : BridgeState) : (s.setInh1 v).qcnt = s.qcnt := rfl
@[simp] theorem State.setInh1_done (s : State) (v : BridgeState) : (s.setInh1 v).done = s.done := rfl
@[simp] theorem State.setInh1_cells (s : State) (v : BridgeState) : (s.setInh1 v).cells = s.cells := rfl
@[simp] theorem State.setInh1_latch (s : State) (v : BridgeState) : (s.setInh1 v).latch = s.latch := rfl
@[simp] theorem State.setInh1_latchFixed (s : State) (v : BridgeState) : (s.setInh1 v).latchFixed = s.latchFixed := rfl
@[simp] theorem State.setInh1_trace (s : State) (v : BridgeState) : (s.setInh1 v).trace = s.trace := rfl
@[simp] theorem State.setInh1_rstIn (s : State) (v : BridgeState) : (s.setInh1 v).rstIn = s.rstIn := rfl
@[simp] theorem State.setInh1_cmdIn (s : State) (v : BridgeState) : (s.setInh1 v).cmdIn = s.cmdIn := rfl
@[simp] theorem State.setInh1_senseIn (s : State) (v : BridgeState) : (s.setInh1 v).senseIn = s.senseIn := rfl
@[simp] theorem State.setInh1_freeCount (s : State) (v : BridgeState) : (s.setInh1 v).freeCount = s.freeCount := rfl

/-! ## `setAbus` -/

@[simp] theorem State.setAbus_params (s : State) (v : Addr) : (s.setAbus v).params = s.params := rfl
@[simp] theorem State.setAbus_op (s : State) (v : Addr) : (s.setAbus v).op = s.op := rfl
@[simp] theorem State.setAbus_addr (s : State) (v : Addr) : (s.setAbus v).addr = s.addr := rfl
@[simp] theorem State.setAbus_dir (s : State) (v : Addr) : (s.setAbus v).dir = s.dir := rfl
@[simp] theorem State.setAbus_mask (s : State) (v : Addr) : (s.setAbus v).mask = s.mask := rfl
@[simp] theorem State.setAbus_rl (s : State) (v : Addr) : (s.setAbus v).rl = s.rl := rfl
@[simp] theorem State.setAbus_value (s : State) (v : Addr) : (s.setAbus v).value = s.value := rfl
@[simp] theorem State.setAbus_rdata (s : State) (v : Addr) : (s.setAbus v).rdata = s.rdata := rfl
@[simp] theorem State.setAbus_upc (s : State) (v : Addr) : (s.setAbus v).upc = s.upc := rfl
@[simp] theorem State.setAbus_phase (s : State) (v : Addr) : (s.setAbus v).phase = s.phase := rfl
@[simp] theorem State.setAbus_xbr (s : State) (v : Addr) : (s.setAbus v).xbr = s.xbr := rfl
@[simp] theorem State.setAbus_ybr (s : State) (v : Addr) : (s.setAbus v).ybr = s.ybr := rfl
@[simp] theorem State.setAbus_inh0 (s : State) (v : Addr) : (s.setAbus v).inh0 = s.inh0 := rfl
@[simp] theorem State.setAbus_inh1 (s : State) (v : Addr) : (s.setAbus v).inh1 = s.inh1 := rfl
@[simp] theorem State.setAbus_abus (s : State) (v : Addr) : (s.setAbus v).abus = v := rfl
@[simp] theorem State.setAbus_lrst (s : State) (v : Addr) : (s.setAbus v).lrst = s.lrst := rfl
@[simp] theorem State.setAbus_dbgl (s : State) (v : Addr) : (s.setAbus v).dbgl = s.dbgl := rfl
@[simp] theorem State.setAbus_qcnt (s : State) (v : Addr) : (s.setAbus v).qcnt = s.qcnt := rfl
@[simp] theorem State.setAbus_done (s : State) (v : Addr) : (s.setAbus v).done = s.done := rfl
@[simp] theorem State.setAbus_cells (s : State) (v : Addr) : (s.setAbus v).cells = s.cells := rfl
@[simp] theorem State.setAbus_latch (s : State) (v : Addr) : (s.setAbus v).latch = s.latch := rfl
@[simp] theorem State.setAbus_latchFixed (s : State) (v : Addr) : (s.setAbus v).latchFixed = s.latchFixed := rfl
@[simp] theorem State.setAbus_trace (s : State) (v : Addr) : (s.setAbus v).trace = s.trace := rfl
@[simp] theorem State.setAbus_rstIn (s : State) (v : Addr) : (s.setAbus v).rstIn = s.rstIn := rfl
@[simp] theorem State.setAbus_cmdIn (s : State) (v : Addr) : (s.setAbus v).cmdIn = s.cmdIn := rfl
@[simp] theorem State.setAbus_senseIn (s : State) (v : Addr) : (s.setAbus v).senseIn = s.senseIn := rfl
@[simp] theorem State.setAbus_freeCount (s : State) (v : Addr) : (s.setAbus v).freeCount = s.freeCount := rfl

/-! ## `setLrst` -/

@[simp] theorem State.setLrst_params (s : State) (v : Bool) : (s.setLrst v).params = s.params := rfl
@[simp] theorem State.setLrst_op (s : State) (v : Bool) : (s.setLrst v).op = s.op := rfl
@[simp] theorem State.setLrst_addr (s : State) (v : Bool) : (s.setLrst v).addr = s.addr := rfl
@[simp] theorem State.setLrst_dir (s : State) (v : Bool) : (s.setLrst v).dir = s.dir := rfl
@[simp] theorem State.setLrst_mask (s : State) (v : Bool) : (s.setLrst v).mask = s.mask := rfl
@[simp] theorem State.setLrst_rl (s : State) (v : Bool) : (s.setLrst v).rl = s.rl := rfl
@[simp] theorem State.setLrst_value (s : State) (v : Bool) : (s.setLrst v).value = s.value := rfl
@[simp] theorem State.setLrst_rdata (s : State) (v : Bool) : (s.setLrst v).rdata = s.rdata := rfl
@[simp] theorem State.setLrst_upc (s : State) (v : Bool) : (s.setLrst v).upc = s.upc := rfl
@[simp] theorem State.setLrst_phase (s : State) (v : Bool) : (s.setLrst v).phase = s.phase := rfl
@[simp] theorem State.setLrst_xbr (s : State) (v : Bool) : (s.setLrst v).xbr = s.xbr := rfl
@[simp] theorem State.setLrst_ybr (s : State) (v : Bool) : (s.setLrst v).ybr = s.ybr := rfl
@[simp] theorem State.setLrst_inh0 (s : State) (v : Bool) : (s.setLrst v).inh0 = s.inh0 := rfl
@[simp] theorem State.setLrst_inh1 (s : State) (v : Bool) : (s.setLrst v).inh1 = s.inh1 := rfl
@[simp] theorem State.setLrst_abus (s : State) (v : Bool) : (s.setLrst v).abus = s.abus := rfl
@[simp] theorem State.setLrst_lrst (s : State) (v : Bool) : (s.setLrst v).lrst = v := rfl
@[simp] theorem State.setLrst_dbgl (s : State) (v : Bool) : (s.setLrst v).dbgl = s.dbgl := rfl
@[simp] theorem State.setLrst_qcnt (s : State) (v : Bool) : (s.setLrst v).qcnt = s.qcnt := rfl
@[simp] theorem State.setLrst_done (s : State) (v : Bool) : (s.setLrst v).done = s.done := rfl
@[simp] theorem State.setLrst_cells (s : State) (v : Bool) : (s.setLrst v).cells = s.cells := rfl
@[simp] theorem State.setLrst_latch (s : State) (v : Bool) : (s.setLrst v).latch = s.latch := rfl
@[simp] theorem State.setLrst_latchFixed (s : State) (v : Bool) : (s.setLrst v).latchFixed = s.latchFixed := rfl
@[simp] theorem State.setLrst_trace (s : State) (v : Bool) : (s.setLrst v).trace = s.trace := rfl
@[simp] theorem State.setLrst_rstIn (s : State) (v : Bool) : (s.setLrst v).rstIn = s.rstIn := rfl
@[simp] theorem State.setLrst_cmdIn (s : State) (v : Bool) : (s.setLrst v).cmdIn = s.cmdIn := rfl
@[simp] theorem State.setLrst_senseIn (s : State) (v : Bool) : (s.setLrst v).senseIn = s.senseIn := rfl
@[simp] theorem State.setLrst_freeCount (s : State) (v : Bool) : (s.setLrst v).freeCount = s.freeCount := rfl

/-! ## `setDbgl` -/

@[simp] theorem State.setDbgl_params (s : State) (v : Bool) : (s.setDbgl v).params = s.params := rfl
@[simp] theorem State.setDbgl_op (s : State) (v : Bool) : (s.setDbgl v).op = s.op := rfl
@[simp] theorem State.setDbgl_addr (s : State) (v : Bool) : (s.setDbgl v).addr = s.addr := rfl
@[simp] theorem State.setDbgl_dir (s : State) (v : Bool) : (s.setDbgl v).dir = s.dir := rfl
@[simp] theorem State.setDbgl_mask (s : State) (v : Bool) : (s.setDbgl v).mask = s.mask := rfl
@[simp] theorem State.setDbgl_rl (s : State) (v : Bool) : (s.setDbgl v).rl = s.rl := rfl
@[simp] theorem State.setDbgl_value (s : State) (v : Bool) : (s.setDbgl v).value = s.value := rfl
@[simp] theorem State.setDbgl_rdata (s : State) (v : Bool) : (s.setDbgl v).rdata = s.rdata := rfl
@[simp] theorem State.setDbgl_upc (s : State) (v : Bool) : (s.setDbgl v).upc = s.upc := rfl
@[simp] theorem State.setDbgl_phase (s : State) (v : Bool) : (s.setDbgl v).phase = s.phase := rfl
@[simp] theorem State.setDbgl_xbr (s : State) (v : Bool) : (s.setDbgl v).xbr = s.xbr := rfl
@[simp] theorem State.setDbgl_ybr (s : State) (v : Bool) : (s.setDbgl v).ybr = s.ybr := rfl
@[simp] theorem State.setDbgl_inh0 (s : State) (v : Bool) : (s.setDbgl v).inh0 = s.inh0 := rfl
@[simp] theorem State.setDbgl_inh1 (s : State) (v : Bool) : (s.setDbgl v).inh1 = s.inh1 := rfl
@[simp] theorem State.setDbgl_abus (s : State) (v : Bool) : (s.setDbgl v).abus = s.abus := rfl
@[simp] theorem State.setDbgl_lrst (s : State) (v : Bool) : (s.setDbgl v).lrst = s.lrst := rfl
@[simp] theorem State.setDbgl_dbgl (s : State) (v : Bool) : (s.setDbgl v).dbgl = v := rfl
@[simp] theorem State.setDbgl_qcnt (s : State) (v : Bool) : (s.setDbgl v).qcnt = s.qcnt := rfl
@[simp] theorem State.setDbgl_done (s : State) (v : Bool) : (s.setDbgl v).done = s.done := rfl
@[simp] theorem State.setDbgl_cells (s : State) (v : Bool) : (s.setDbgl v).cells = s.cells := rfl
@[simp] theorem State.setDbgl_latch (s : State) (v : Bool) : (s.setDbgl v).latch = s.latch := rfl
@[simp] theorem State.setDbgl_latchFixed (s : State) (v : Bool) : (s.setDbgl v).latchFixed = s.latchFixed := rfl
@[simp] theorem State.setDbgl_trace (s : State) (v : Bool) : (s.setDbgl v).trace = s.trace := rfl
@[simp] theorem State.setDbgl_rstIn (s : State) (v : Bool) : (s.setDbgl v).rstIn = s.rstIn := rfl
@[simp] theorem State.setDbgl_cmdIn (s : State) (v : Bool) : (s.setDbgl v).cmdIn = s.cmdIn := rfl
@[simp] theorem State.setDbgl_senseIn (s : State) (v : Bool) : (s.setDbgl v).senseIn = s.senseIn := rfl
@[simp] theorem State.setDbgl_freeCount (s : State) (v : Bool) : (s.setDbgl v).freeCount = s.freeCount := rfl

/-! ## `setQcnt` -/

@[simp] theorem State.setQcnt_params (s : State) (v : Nat) : (s.setQcnt v).params = s.params := rfl
@[simp] theorem State.setQcnt_op (s : State) (v : Nat) : (s.setQcnt v).op = s.op := rfl
@[simp] theorem State.setQcnt_addr (s : State) (v : Nat) : (s.setQcnt v).addr = s.addr := rfl
@[simp] theorem State.setQcnt_dir (s : State) (v : Nat) : (s.setQcnt v).dir = s.dir := rfl
@[simp] theorem State.setQcnt_mask (s : State) (v : Nat) : (s.setQcnt v).mask = s.mask := rfl
@[simp] theorem State.setQcnt_rl (s : State) (v : Nat) : (s.setQcnt v).rl = s.rl := rfl
@[simp] theorem State.setQcnt_value (s : State) (v : Nat) : (s.setQcnt v).value = s.value := rfl
@[simp] theorem State.setQcnt_rdata (s : State) (v : Nat) : (s.setQcnt v).rdata = s.rdata := rfl
@[simp] theorem State.setQcnt_upc (s : State) (v : Nat) : (s.setQcnt v).upc = s.upc := rfl
@[simp] theorem State.setQcnt_phase (s : State) (v : Nat) : (s.setQcnt v).phase = s.phase := rfl
@[simp] theorem State.setQcnt_xbr (s : State) (v : Nat) : (s.setQcnt v).xbr = s.xbr := rfl
@[simp] theorem State.setQcnt_ybr (s : State) (v : Nat) : (s.setQcnt v).ybr = s.ybr := rfl
@[simp] theorem State.setQcnt_inh0 (s : State) (v : Nat) : (s.setQcnt v).inh0 = s.inh0 := rfl
@[simp] theorem State.setQcnt_inh1 (s : State) (v : Nat) : (s.setQcnt v).inh1 = s.inh1 := rfl
@[simp] theorem State.setQcnt_abus (s : State) (v : Nat) : (s.setQcnt v).abus = s.abus := rfl
@[simp] theorem State.setQcnt_lrst (s : State) (v : Nat) : (s.setQcnt v).lrst = s.lrst := rfl
@[simp] theorem State.setQcnt_dbgl (s : State) (v : Nat) : (s.setQcnt v).dbgl = s.dbgl := rfl
@[simp] theorem State.setQcnt_qcnt (s : State) (v : Nat) : (s.setQcnt v).qcnt = v := rfl
@[simp] theorem State.setQcnt_done (s : State) (v : Nat) : (s.setQcnt v).done = s.done := rfl
@[simp] theorem State.setQcnt_cells (s : State) (v : Nat) : (s.setQcnt v).cells = s.cells := rfl
@[simp] theorem State.setQcnt_latch (s : State) (v : Nat) : (s.setQcnt v).latch = s.latch := rfl
@[simp] theorem State.setQcnt_latchFixed (s : State) (v : Nat) : (s.setQcnt v).latchFixed = s.latchFixed := rfl
@[simp] theorem State.setQcnt_trace (s : State) (v : Nat) : (s.setQcnt v).trace = s.trace := rfl
@[simp] theorem State.setQcnt_rstIn (s : State) (v : Nat) : (s.setQcnt v).rstIn = s.rstIn := rfl
@[simp] theorem State.setQcnt_cmdIn (s : State) (v : Nat) : (s.setQcnt v).cmdIn = s.cmdIn := rfl
@[simp] theorem State.setQcnt_senseIn (s : State) (v : Nat) : (s.setQcnt v).senseIn = s.senseIn := rfl
@[simp] theorem State.setQcnt_freeCount (s : State) (v : Nat) : (s.setQcnt v).freeCount = s.freeCount := rfl

/-! ## `setCells` -/

@[simp] theorem State.setCells_params (s : State) (v : Memory) : (s.setCells v).params = s.params := rfl
@[simp] theorem State.setCells_op (s : State) (v : Memory) : (s.setCells v).op = s.op := rfl
@[simp] theorem State.setCells_addr (s : State) (v : Memory) : (s.setCells v).addr = s.addr := rfl
@[simp] theorem State.setCells_dir (s : State) (v : Memory) : (s.setCells v).dir = s.dir := rfl
@[simp] theorem State.setCells_mask (s : State) (v : Memory) : (s.setCells v).mask = s.mask := rfl
@[simp] theorem State.setCells_rl (s : State) (v : Memory) : (s.setCells v).rl = s.rl := rfl
@[simp] theorem State.setCells_value (s : State) (v : Memory) : (s.setCells v).value = s.value := rfl
@[simp] theorem State.setCells_rdata (s : State) (v : Memory) : (s.setCells v).rdata = s.rdata := rfl
@[simp] theorem State.setCells_upc (s : State) (v : Memory) : (s.setCells v).upc = s.upc := rfl
@[simp] theorem State.setCells_phase (s : State) (v : Memory) : (s.setCells v).phase = s.phase := rfl
@[simp] theorem State.setCells_xbr (s : State) (v : Memory) : (s.setCells v).xbr = s.xbr := rfl
@[simp] theorem State.setCells_ybr (s : State) (v : Memory) : (s.setCells v).ybr = s.ybr := rfl
@[simp] theorem State.setCells_inh0 (s : State) (v : Memory) : (s.setCells v).inh0 = s.inh0 := rfl
@[simp] theorem State.setCells_inh1 (s : State) (v : Memory) : (s.setCells v).inh1 = s.inh1 := rfl
@[simp] theorem State.setCells_abus (s : State) (v : Memory) : (s.setCells v).abus = s.abus := rfl
@[simp] theorem State.setCells_lrst (s : State) (v : Memory) : (s.setCells v).lrst = s.lrst := rfl
@[simp] theorem State.setCells_dbgl (s : State) (v : Memory) : (s.setCells v).dbgl = s.dbgl := rfl
@[simp] theorem State.setCells_qcnt (s : State) (v : Memory) : (s.setCells v).qcnt = s.qcnt := rfl
@[simp] theorem State.setCells_done (s : State) (v : Memory) : (s.setCells v).done = s.done := rfl
@[simp] theorem State.setCells_cells (s : State) (v : Memory) : (s.setCells v).cells = v := rfl
@[simp] theorem State.setCells_latch (s : State) (v : Memory) : (s.setCells v).latch = s.latch := rfl
@[simp] theorem State.setCells_latchFixed (s : State) (v : Memory) : (s.setCells v).latchFixed = s.latchFixed := rfl
@[simp] theorem State.setCells_trace (s : State) (v : Memory) : (s.setCells v).trace = s.trace := rfl
@[simp] theorem State.setCells_rstIn (s : State) (v : Memory) : (s.setCells v).rstIn = s.rstIn := rfl
@[simp] theorem State.setCells_cmdIn (s : State) (v : Memory) : (s.setCells v).cmdIn = s.cmdIn := rfl
@[simp] theorem State.setCells_senseIn (s : State) (v : Memory) : (s.setCells v).senseIn = s.senseIn := rfl
@[simp] theorem State.setCells_freeCount (s : State) (v : Memory) : (s.setCells v).freeCount = s.freeCount := rfl

/-! ## `setLatch` -/

@[simp] theorem State.setLatch_params (s : State) (v0 : Plane2) (v1 : Bool) : (s.setLatch v0 v1).params = s.params := rfl
@[simp] theorem State.setLatch_op (s : State) (v0 : Plane2) (v1 : Bool) : (s.setLatch v0 v1).op = s.op := rfl
@[simp] theorem State.setLatch_addr (s : State) (v0 : Plane2) (v1 : Bool) : (s.setLatch v0 v1).addr = s.addr := rfl
@[simp] theorem State.setLatch_dir (s : State) (v0 : Plane2) (v1 : Bool) : (s.setLatch v0 v1).dir = s.dir := rfl
@[simp] theorem State.setLatch_mask (s : State) (v0 : Plane2) (v1 : Bool) : (s.setLatch v0 v1).mask = s.mask := rfl
@[simp] theorem State.setLatch_rl (s : State) (v0 : Plane2) (v1 : Bool) : (s.setLatch v0 v1).rl = s.rl := rfl
@[simp] theorem State.setLatch_value (s : State) (v0 : Plane2) (v1 : Bool) : (s.setLatch v0 v1).value = s.value := rfl
@[simp] theorem State.setLatch_rdata (s : State) (v0 : Plane2) (v1 : Bool) : (s.setLatch v0 v1).rdata = s.rdata := rfl
@[simp] theorem State.setLatch_upc (s : State) (v0 : Plane2) (v1 : Bool) : (s.setLatch v0 v1).upc = s.upc := rfl
@[simp] theorem State.setLatch_phase (s : State) (v0 : Plane2) (v1 : Bool) : (s.setLatch v0 v1).phase = s.phase := rfl
@[simp] theorem State.setLatch_xbr (s : State) (v0 : Plane2) (v1 : Bool) : (s.setLatch v0 v1).xbr = s.xbr := rfl
@[simp] theorem State.setLatch_ybr (s : State) (v0 : Plane2) (v1 : Bool) : (s.setLatch v0 v1).ybr = s.ybr := rfl
@[simp] theorem State.setLatch_inh0 (s : State) (v0 : Plane2) (v1 : Bool) : (s.setLatch v0 v1).inh0 = s.inh0 := rfl
@[simp] theorem State.setLatch_inh1 (s : State) (v0 : Plane2) (v1 : Bool) : (s.setLatch v0 v1).inh1 = s.inh1 := rfl
@[simp] theorem State.setLatch_abus (s : State) (v0 : Plane2) (v1 : Bool) : (s.setLatch v0 v1).abus = s.abus := rfl
@[simp] theorem State.setLatch_lrst (s : State) (v0 : Plane2) (v1 : Bool) : (s.setLatch v0 v1).lrst = s.lrst := rfl
@[simp] theorem State.setLatch_dbgl (s : State) (v0 : Plane2) (v1 : Bool) : (s.setLatch v0 v1).dbgl = s.dbgl := rfl
@[simp] theorem State.setLatch_qcnt (s : State) (v0 : Plane2) (v1 : Bool) : (s.setLatch v0 v1).qcnt = s.qcnt := rfl
@[simp] theorem State.setLatch_done (s : State) (v0 : Plane2) (v1 : Bool) : (s.setLatch v0 v1).done = s.done := rfl
@[simp] theorem State.setLatch_cells (s : State) (v0 : Plane2) (v1 : Bool) : (s.setLatch v0 v1).cells = s.cells := rfl
@[simp] theorem State.setLatch_latch (s : State) (v0 : Plane2) (v1 : Bool) : (s.setLatch v0 v1).latch = v0 := rfl
@[simp] theorem State.setLatch_latchFixed (s : State) (v0 : Plane2) (v1 : Bool) : (s.setLatch v0 v1).latchFixed = v1 := rfl
@[simp] theorem State.setLatch_trace (s : State) (v0 : Plane2) (v1 : Bool) : (s.setLatch v0 v1).trace = s.trace := rfl
@[simp] theorem State.setLatch_rstIn (s : State) (v0 : Plane2) (v1 : Bool) : (s.setLatch v0 v1).rstIn = s.rstIn := rfl
@[simp] theorem State.setLatch_cmdIn (s : State) (v0 : Plane2) (v1 : Bool) : (s.setLatch v0 v1).cmdIn = s.cmdIn := rfl
@[simp] theorem State.setLatch_senseIn (s : State) (v0 : Plane2) (v1 : Bool) : (s.setLatch v0 v1).senseIn = s.senseIn := rfl
@[simp] theorem State.setLatch_freeCount (s : State) (v0 : Plane2) (v1 : Bool) : (s.setLatch v0 v1).freeCount = s.freeCount := rfl

/-! ## `startPulse` -/

@[simp] theorem State.startPulse_params (s : State) (o : PulseOperands) (p : Phase) : (s.startPulse o p).params = s.params := rfl
@[simp] theorem State.startPulse_op (s : State) (o : PulseOperands) (p : Phase) : (s.startPulse o p).op = s.op := rfl
@[simp] theorem State.startPulse_addr (s : State) (o : PulseOperands) (p : Phase) : (s.startPulse o p).addr = s.addr := rfl
@[simp] theorem State.startPulse_dir (s : State) (o : PulseOperands) (p : Phase) : (s.startPulse o p).dir = o.dir := rfl
@[simp] theorem State.startPulse_mask (s : State) (o : PulseOperands) (p : Phase) : (s.startPulse o p).mask = o.mask := rfl
@[simp] theorem State.startPulse_rl (s : State) (o : PulseOperands) (p : Phase) : (s.startPulse o p).rl = o.rl := rfl
@[simp] theorem State.startPulse_value (s : State) (o : PulseOperands) (p : Phase) : (s.startPulse o p).value = s.value := rfl
@[simp] theorem State.startPulse_rdata (s : State) (o : PulseOperands) (p : Phase) : (s.startPulse o p).rdata = s.rdata := rfl
@[simp] theorem State.startPulse_upc (s : State) (o : PulseOperands) (p : Phase) : (s.startPulse o p).upc = 0#5 := rfl
@[simp] theorem State.startPulse_phase (s : State) (o : PulseOperands) (p : Phase) : (s.startPulse o p).phase = p := rfl
@[simp] theorem State.startPulse_xbr (s : State) (o : PulseOperands) (p : Phase) : (s.startPulse o p).xbr = s.xbr := rfl
@[simp] theorem State.startPulse_ybr (s : State) (o : PulseOperands) (p : Phase) : (s.startPulse o p).ybr = s.ybr := rfl
@[simp] theorem State.startPulse_inh0 (s : State) (o : PulseOperands) (p : Phase) : (s.startPulse o p).inh0 = s.inh0 := rfl
@[simp] theorem State.startPulse_inh1 (s : State) (o : PulseOperands) (p : Phase) : (s.startPulse o p).inh1 = s.inh1 := rfl
@[simp] theorem State.startPulse_abus (s : State) (o : PulseOperands) (p : Phase) : (s.startPulse o p).abus = s.abus := rfl
@[simp] theorem State.startPulse_lrst (s : State) (o : PulseOperands) (p : Phase) : (s.startPulse o p).lrst = s.lrst := rfl
@[simp] theorem State.startPulse_dbgl (s : State) (o : PulseOperands) (p : Phase) : (s.startPulse o p).dbgl = s.dbgl := rfl
@[simp] theorem State.startPulse_qcnt (s : State) (o : PulseOperands) (p : Phase) : (s.startPulse o p).qcnt = s.qcnt := rfl
@[simp] theorem State.startPulse_done (s : State) (o : PulseOperands) (p : Phase) : (s.startPulse o p).done = s.done := rfl
@[simp] theorem State.startPulse_cells (s : State) (o : PulseOperands) (p : Phase) : (s.startPulse o p).cells = s.cells := rfl
@[simp] theorem State.startPulse_latch (s : State) (o : PulseOperands) (p : Phase) : (s.startPulse o p).latch = s.latch := rfl
@[simp] theorem State.startPulse_latchFixed (s : State) (o : PulseOperands) (p : Phase) : (s.startPulse o p).latchFixed = s.latchFixed := rfl
@[simp] theorem State.startPulse_trace (s : State) (o : PulseOperands) (p : Phase) : (s.startPulse o p).trace = s.trace := rfl
@[simp] theorem State.startPulse_rstIn (s : State) (o : PulseOperands) (p : Phase) : (s.startPulse o p).rstIn = s.rstIn := rfl
@[simp] theorem State.startPulse_cmdIn (s : State) (o : PulseOperands) (p : Phase) : (s.startPulse o p).cmdIn = s.cmdIn := rfl
@[simp] theorem State.startPulse_senseIn (s : State) (o : PulseOperands) (p : Phase) : (s.startPulse o p).senseIn = s.senseIn := rfl
@[simp] theorem State.startPulse_freeCount (s : State) (o : PulseOperands) (p : Phase) : (s.startPulse o p).freeCount = s.freeCount := rfl

/-! ## `finish` -/

@[simp] theorem State.finish_params (s : State) : s.finish.params = s.params := rfl
@[simp] theorem State.finish_op (s : State) : s.finish.op = s.op := rfl
@[simp] theorem State.finish_addr (s : State) : s.finish.addr = s.addr := rfl
@[simp] theorem State.finish_dir (s : State) : s.finish.dir = s.dir := rfl
@[simp] theorem State.finish_mask (s : State) : s.finish.mask = s.mask := rfl
@[simp] theorem State.finish_rl (s : State) : s.finish.rl = s.rl := rfl
@[simp] theorem State.finish_value (s : State) : s.finish.value = s.value := rfl
@[simp] theorem State.finish_rdata (s : State) : s.finish.rdata = s.rdata := rfl
@[simp] theorem State.finish_upc (s : State) : s.finish.upc = 0#5 := rfl
@[simp] theorem State.finish_phase (s : State) : s.finish.phase = .idle := rfl
@[simp] theorem State.finish_xbr (s : State) : s.finish.xbr = s.xbr := rfl
@[simp] theorem State.finish_ybr (s : State) : s.finish.ybr = s.ybr := rfl
@[simp] theorem State.finish_inh0 (s : State) : s.finish.inh0 = s.inh0 := rfl
@[simp] theorem State.finish_inh1 (s : State) : s.finish.inh1 = s.inh1 := rfl
@[simp] theorem State.finish_abus (s : State) : s.finish.abus = s.abus := rfl
@[simp] theorem State.finish_lrst (s : State) : s.finish.lrst = s.lrst := rfl
@[simp] theorem State.finish_dbgl (s : State) : s.finish.dbgl = s.dbgl := rfl
@[simp] theorem State.finish_qcnt (s : State) : s.finish.qcnt = s.qcnt := rfl
@[simp] theorem State.finish_done (s : State) : s.finish.done = true := rfl
@[simp] theorem State.finish_cells (s : State) : s.finish.cells = s.cells := rfl
@[simp] theorem State.finish_latch (s : State) : s.finish.latch = s.latch := rfl
@[simp] theorem State.finish_latchFixed (s : State) : s.finish.latchFixed = s.latchFixed := rfl
@[simp] theorem State.finish_trace (s : State) : s.finish.trace = s.trace := rfl
@[simp] theorem State.finish_rstIn (s : State) : s.finish.rstIn = s.rstIn := rfl
@[simp] theorem State.finish_cmdIn (s : State) : s.finish.cmdIn = s.cmdIn := rfl
@[simp] theorem State.finish_senseIn (s : State) : s.finish.senseIn = s.senseIn := rfl
@[simp] theorem State.finish_freeCount (s : State) : s.finish.freeCount = s.freeCount := rfl

/-! ## `clockIn` -/

@[simp] theorem State.clockIn_params (s : State) : s.clockIn.params = s.params := rfl
@[simp] theorem State.clockIn_op (s : State) : s.clockIn.op = s.op := rfl
@[simp] theorem State.clockIn_addr (s : State) : s.clockIn.addr = s.addr := rfl
@[simp] theorem State.clockIn_dir (s : State) : s.clockIn.dir = s.dir := rfl
@[simp] theorem State.clockIn_mask (s : State) : s.clockIn.mask = s.mask := rfl
@[simp] theorem State.clockIn_rl (s : State) : s.clockIn.rl = s.rl := rfl
@[simp] theorem State.clockIn_value (s : State) : s.clockIn.value = s.value := rfl
@[simp] theorem State.clockIn_rdata (s : State) : s.clockIn.rdata = s.rdata := rfl
@[simp] theorem State.clockIn_upc (s : State) : s.clockIn.upc = s.upc := rfl
@[simp] theorem State.clockIn_phase (s : State) : s.clockIn.phase = s.phase := rfl
@[simp] theorem State.clockIn_xbr (s : State) : s.clockIn.xbr = s.xbr := rfl
@[simp] theorem State.clockIn_ybr (s : State) : s.clockIn.ybr = s.ybr := rfl
@[simp] theorem State.clockIn_inh0 (s : State) : s.clockIn.inh0 = s.inh0 := rfl
@[simp] theorem State.clockIn_inh1 (s : State) : s.clockIn.inh1 = s.inh1 := rfl
@[simp] theorem State.clockIn_abus (s : State) : s.clockIn.abus = s.abus := rfl
@[simp] theorem State.clockIn_lrst (s : State) : s.clockIn.lrst = s.lrst := rfl
@[simp] theorem State.clockIn_dbgl (s : State) : s.clockIn.dbgl = s.dbgl := rfl
@[simp] theorem State.clockIn_qcnt (s : State) : s.clockIn.qcnt = s.qcnt := rfl
@[simp] theorem State.clockIn_done (s : State) : s.clockIn.done = false := rfl
@[simp] theorem State.clockIn_cells (s : State) : s.clockIn.cells = s.cells := rfl
@[simp] theorem State.clockIn_latch (s : State) : s.clockIn.latch = s.latch := rfl
@[simp] theorem State.clockIn_latchFixed (s : State) : s.clockIn.latchFixed = s.latchFixed := rfl
@[simp] theorem State.clockIn_trace (s : State) : s.clockIn.trace = s.trace := rfl
@[simp] theorem State.clockIn_rstIn (s : State) : s.clockIn.rstIn = s.rstIn.tail := rfl
@[simp] theorem State.clockIn_cmdIn (s : State) : s.clockIn.cmdIn = s.cmdIn := rfl
@[simp] theorem State.clockIn_senseIn (s : State) : s.clockIn.senseIn = s.senseIn := rfl
@[simp] theorem State.clockIn_freeCount (s : State) : s.clockIn.freeCount = s.freeCount := rfl

/-! ## `sampleSense` -/

@[simp] theorem State.sampleSense_params (s : State) : s.sampleSense.params = s.params := rfl
@[simp] theorem State.sampleSense_op (s : State) : s.sampleSense.op = s.op := rfl
@[simp] theorem State.sampleSense_addr (s : State) : s.sampleSense.addr = s.addr := rfl
@[simp] theorem State.sampleSense_dir (s : State) : s.sampleSense.dir = s.dir := rfl
@[simp] theorem State.sampleSense_mask (s : State) : s.sampleSense.mask = s.mask := rfl
@[simp] theorem State.sampleSense_rl (s : State) : s.sampleSense.rl = s.rl := rfl
@[simp] theorem State.sampleSense_value (s : State) : s.sampleSense.value = s.senseLevels := rfl
@[simp] theorem State.sampleSense_rdata (s : State) : s.sampleSense.rdata = s.rdata := rfl
@[simp] theorem State.sampleSense_upc (s : State) : s.sampleSense.upc = s.upc := rfl
@[simp] theorem State.sampleSense_phase (s : State) : s.sampleSense.phase = s.phase := rfl
@[simp] theorem State.sampleSense_xbr (s : State) : s.sampleSense.xbr = s.xbr := rfl
@[simp] theorem State.sampleSense_ybr (s : State) : s.sampleSense.ybr = s.ybr := rfl
@[simp] theorem State.sampleSense_inh0 (s : State) : s.sampleSense.inh0 = s.inh0 := rfl
@[simp] theorem State.sampleSense_inh1 (s : State) : s.sampleSense.inh1 = s.inh1 := rfl
@[simp] theorem State.sampleSense_abus (s : State) : s.sampleSense.abus = s.abus := rfl
@[simp] theorem State.sampleSense_lrst (s : State) : s.sampleSense.lrst = s.lrst := rfl
@[simp] theorem State.sampleSense_dbgl (s : State) : s.sampleSense.dbgl = s.dbgl := rfl
@[simp] theorem State.sampleSense_qcnt (s : State) : s.sampleSense.qcnt = s.qcnt := rfl
@[simp] theorem State.sampleSense_done (s : State) : s.sampleSense.done = s.done := rfl
@[simp] theorem State.sampleSense_cells (s : State) : s.sampleSense.cells = s.cells := rfl
@[simp] theorem State.sampleSense_latch (s : State) : s.sampleSense.latch = s.latch := rfl
@[simp] theorem State.sampleSense_latchFixed (s : State) : s.sampleSense.latchFixed = s.latchFixed := rfl
@[simp] theorem State.sampleSense_trace (s : State) : s.sampleSense.trace = s.trace := rfl
@[simp] theorem State.sampleSense_rstIn (s : State) : s.sampleSense.rstIn = s.rstIn := rfl
@[simp] theorem State.sampleSense_cmdIn (s : State) : s.sampleSense.cmdIn = s.cmdIn := rfl
@[simp] theorem State.sampleSense_senseIn (s : State) : s.sampleSense.senseIn = s.senseRest := rfl
@[simp] theorem State.sampleSense_freeCount (s : State) : s.sampleSense.freeCount = s.freeCount + 1 := rfl

end Sys2Proof.Machine
end

