-- ==== Sys2Proof/Laws/Memory.lean ====
section
/-! SUPPORT. The core plane: reads after writes, and the canonical form, which every memory operation keeps. -/

namespace Sys2Proof.Machine

theorem memoryRead_write_same (m : Memory) (k : Nat) (v : BitVec 8) : memoryRead (memoryWrite m k v) k = some v := by
  induction m with
  | nil => simp [memoryWrite, memoryRead]
  | cons c m ih =>
    obtain ⟨a, b⟩ := c
    unfold memoryWrite
    split_ifs with h1 h2
    · simp [memoryRead]
    · simp [memoryRead]
    · simp only [memoryRead]
      rw [if_neg (fun h => h2 h.symm), ih]

theorem memoryRead_write_other (m : Memory) {j k : Nat} (v : BitVec 8) (h : j ≠ k) :
    memoryRead (memoryWrite m k v) j = memoryRead m j := by
  induction m with
  | nil => simp [memoryWrite, memoryRead, h.symm]
  | cons c m ih =>
    obtain ⟨a, b⟩ := c
    unfold memoryWrite
    split_ifs with h1 h2
    · simp [memoryRead, h.symm]
    · subst h2
      simp [memoryRead, h.symm]
    · simp only [memoryRead, ih]

theorem memoryWfFrom_write {m : Memory} {lo k : Nat} {v : BitVec 8} (hm : memoryWfFrom lo m = true) (hlo : lo ≤ k)
    (hk : k < 256) (hv : v.toNat < 4) : memoryWfFrom lo (memoryWrite m k v) = true := by
  induction m generalizing lo with
  | nil => simp [memoryWrite, memoryWfFrom, hlo, hk, hv]
  | cons c m ih =>
    obtain ⟨a, b⟩ := c
    simp only [memoryWfFrom, Bool.and_eq_true, decide_eq_true_eq] at hm
    obtain ⟨⟨⟨h1, h2⟩, h3⟩, h4⟩ := hm
    unfold memoryWrite
    split_ifs with h5 h6
    · simp [memoryWfFrom, *]
    · subst h6
      simp [memoryWfFrom, *]
    · simp only [memoryWfFrom, Bool.and_eq_true, decide_eq_true_eq]
      exact ⟨⟨⟨h1, h2⟩, h3⟩, ih h4 (by omega)⟩

/-- Listing a 2-bit value at an address keeps the canonical form. -/
theorem memoryWrite_wf {m : Memory} (a : Addr) (v : Plane2) (hm : m.wf = true) :
    (memoryWrite m a.toNat (v.setWidth 8)).wf = true := by
  have ha := a.isLt
  have hv := v.isLt
  exact memoryWfFrom_write hm (Nat.zero_le _) (by omega)
    (by rw [BitVec.toNat_setWidth, Nat.mod_eq_of_lt] <;> omega)

/-- `MemWrite` keeps the canonical form. -/
theorem memWrite_wf {s : State} (a : Addr) (v : Plane2) (hs : s.cells.wf = true) : (s.memWrite a v).cells.wf = true :=
  memoryWrite_wf a v hs

/-- ENV_IDEAL: a cell holds what the plane lists. -/
theorem memRead_ideal {s : State} (h : s.params.env = .ideal) (a : Addr) : s.memRead a = cellContent s.cells a := by
  simp only [State.memRead, h]

/-- ENV_ANY: a cell holds the free value of the moment. -/
theorem memRead_any {s : State} (h : s.params.env = .any) (a : Addr) :
    s.memRead a = Config.anyCell s.trace.length s.freeCount a := by
  simp only [State.memRead, h]

/-- ENV_IDEAL: a cell written holds the value written. -/
theorem memRead_memWrite_same {s : State} (h : s.params.env = .ideal) (a : Addr) (v : Plane2) :
    (s.memWrite a v).memRead a = v := by
  rw [memRead_ideal (s := s.memWrite a v) h]
  simp only [cellContent, State.memWrite, State.setCells_cells, memoryRead_write_same]
  have hv := v.isLt
  apply BitVec.eq_of_toNat_eq
  simp only [BitVec.toNat_setWidth]
  omega

theorem memRead_memWrite_other (s : State) {a b : Addr} (v : Plane2) (h : b ≠ a) :
    (s.memWrite a v).memRead b = s.memRead b := by
  simp only [State.memRead, cellContent, State.memWrite, State.setCells]
  rw [memoryRead_write_other _ _ (fun e => h (BitVec.eq_of_toNat_eq e))]

/-- ENV_IDEAL: what the cells hold depends on the core plane alone. -/
theorem memRead_congr {s t : State} (h : s.cells = t.cells) (hs : s.params.env = .ideal) (ht : t.params.env = .ideal)
    (a : Addr) : s.memRead a = t.memRead a := by
  rw [memRead_ideal hs, memRead_ideal ht, h]

end Sys2Proof.Machine
end

