-- ==== Sys2Proof/Laws/Operands.lean ====
section
/-! SUPPORT. What the operand forms and the environment's bit operations give: which driven states conduct, and each plane of a
pulsed cell and of the sense latch. -/

namespace Sys2Proof.Machine

/-- A driven X bridge conducts (R154). -/
@[simp] theorem conducts_xDrive (a : Addr) (d : Bool) : conducts (xDrive a d) = true := by
  unfold xDrive
  split <;> rfl

/-- A driven inhibit bridge conducts (R157). -/
@[simp] theorem conducts_inhDrive (a : Addr) (d : Bool) : conducts (inhDrive a d) = true := by
  unfold inhDrive
  split <;> rfl

/-- A driven Y bridge conducts (R158). -/
@[simp] theorem conducts_yDrive (d : Bool) : conducts (yDrive d) = true := by cases d <;> rfl

/-- The direction the environment reads on Y is the direction driven (R73, R158). -/
@[simp] theorem yDrive_direction (d : Bool) : (yDrive d == .cd1) = d := by cases d <;> rfl

/-- Neither inert state conducts (R11). -/
@[simp] theorem conducts_noConduction (p : Params) : conducts (noConduction p) = false := by
  unfold noConduction
  split <;> rfl

/-- A plane with full current takes the direction, the other keeps its bit (R71). -/
theorem pulsedCell_planes (old full : Plane2) (d : Bool) :
    (pulsedCell old full d).getLsbD 0 = (if full.getLsbD 0 then d else old.getLsbD 0) ∧
    (pulsedCell old full d).getLsbD 1 = (if full.getLsbD 1 then d else old.getLsbD 1) := by
  revert old full d
  decide

/-- A plane gets full current when its inhibit bridge does not conduct (R73). -/
theorem fullPlanes_planes (i j : BridgeState) :
    (fullPlanes i j).getLsbD 0 = !conducts i ∧ (fullPlanes i j).getLsbD 1 = !conducts j := by
  cases i <;> cases j <;> decide

/-- A plane's latch bit stays set, or is set by a plane with full current that held 1 (R76 (b)). -/
theorem capturedLatch_planes (latch old full : Plane2) :
    (capturedLatch latch old full).getLsbD 0 = (latch.getLsbD 0 || full.getLsbD 0 && old.getLsbD 0) ∧
    (capturedLatch latch old full).getLsbD 1 = (latch.getLsbD 1 || full.getLsbD 1 && old.getLsbD 1) := by
  revert latch old full
  decide

/-- Two pairs of planes are equal when each plane is. -/
theorem plane_ext {u v : Plane2} (h0 : u.getLsbD 0 = v.getLsbD 0) (h1 : u.getLsbD 1 = v.getLsbD 1) : u = v := by
  revert u v
  decide

end Sys2Proof.Machine
end

