-- ==== Sys2Proof/Laws/Ops.lean ====
section
/-! SUPPORT. What each shared operation does, once: each event as a record update, the slots, the full-select. -/

namespace Sys2Proof.Machine

/-! ## Events -/

theorem emit_ab (s : State) (b : Addr) : s.emit (.ab b) = { s with abus := b, trace := s.trace ++ [.ab b] } := rfl

theorem emit_w (s : State) (n : Nat) : s.emit (.w n) = { s with qcnt := 0, trace := s.trace ++ [.w n] } := rfl

theorem emit_lr_true (s : State) : s.emit (.lr true) = { s with lrst := true, trace := s.trace ++ [.lr true] } := rfl

/-- ENV_IDEAL: `LR(false)` clears the sense latch (R76 (a)). -/
theorem emit_lr_false_ideal {s : State} (h : s.params.env = .ideal) :
    s.emit (.lr false) =
      { s with lrst := false, latch := 0#2, latchFixed := true, trace := s.trace ++ [.lr false] } := by
  simp [State.emit, State.applyEvent, State.latchResetLine, State.setLrst, State.setLatch, h]

/-- ENV_ANY: `LR(false)` writes the line. -/
theorem emit_lr_false_any {s : State} (h : s.params.env = .any) :
    s.emit (.lr false) = { s with lrst := false, trace := s.trace ++ [.lr false] } := by
  simp [State.emit, State.applyEvent, State.latchResetLine, State.setLrst, h]

/-- In either environment `LR(false)` changes the line, the trace and the sense latch, nothing else. -/
theorem emit_lr_false_frame (s : State) :
    s.emit (.lr false) =
      { s with
        lrst := false
        latch := (s.emit (.lr false)).latch
        latchFixed := (s.emit (.lr false)).latchFixed
        trace := s.trace ++ [.lr false] } := by
  cases h : s.params.env with
  | any => rw [emit_lr_false_any h]
  | ideal => rw [emit_lr_false_ideal h]

theorem emit_br_x (s : State) (v : BridgeState) :
    s.emit (.br .x v) = { s with xbr := v, trace := s.trace ++ [.br .x v] } := rfl

theorem emit_br_inh0 (s : State) (v : BridgeState) :
    s.emit (.br .inh0 v) = { s with inh0 := v, trace := s.trace ++ [.br .inh0 v] } := rfl

theorem emit_br_inh1 (s : State) (v : BridgeState) :
    s.emit (.br .inh1 v) = { s with inh1 := v, trace := s.trace ++ [.br .inh1 v] } := rfl

theorem emit_dbg (s : State) : s.emit .dbg = { s with dbgl := false, trace := s.trace ++ [.dbg] } := rfl

theorem emit_ss (s : State) :
    s.emit .ss =
      { s with
        value := s.senseLevels
        senseIn := s.senseRest
        freeCount := s.freeCount + 1
        trace := s.trace ++ [.ss] } := rfl

/-- ENV_ANY: a full-select changes nothing that the model holds. -/
theorem fullSelect_any {s : State} (h : s.params.env = .any) (d : Bool) : s.fullSelect d = s := by
  simp only [State.fullSelect, h]

/-- ENV_IDEAL: a full-select needs X to conduct. -/
theorem fullSelect_ideal {s : State} (h : s.params.env = .ideal) (d : Bool) :
    s.fullSelect d = if conducts s.xbr then (s.captureLatch d).selectCell d else s := by
  simp only [State.fullSelect, h]

/-- A full-select changes the core plane and the sense latch, nothing else. -/
theorem fullSelect_frame (s : State) (d : Bool) :
    s.fullSelect d =
      { s with
        cells := (s.fullSelect d).cells
        latch := (s.fullSelect d).latch
        latchFixed := (s.fullSelect d).latchFixed } := by
  cases h : s.params.env with
  | any => rw [fullSelect_any h]
  | ideal =>
    rw [fullSelect_ideal h]
    unfold State.selectCell State.captureLatch
    dsimp only
    split_ifs <;> rfl

/-- ENV_IDEAL: the cell on the bus after a full-select (R71, R73). -/
theorem fullSelect_memRead_bus {s : State} (h : s.params.env = .ideal) (d : Bool) :
    (s.fullSelect d).memRead s.abus =
      if conducts s.xbr then pulsedCell (s.memRead s.abus) (fullPlanes s.inh0 s.inh1) d else s.memRead s.abus := by
  have hx : ∀ old : Plane2, pulsedCell old 0#2 d = old := by revert d; decide
  rw [fullSelect_ideal h]
  split_ifs with h1
  · have hc : (s.captureLatch d).cells = s.cells ∧ (s.captureLatch d).abus = s.abus ∧
        (s.captureLatch d).inh0 = s.inh0 ∧ (s.captureLatch d).inh1 = s.inh1 ∧
        (s.captureLatch d).params.env = .ideal := by
      unfold State.captureLatch
      split_ifs <;> exact ⟨rfl, rfl, rfl, rfl, h⟩
    obtain ⟨h2, h3, h4, h5, h7⟩ := hc
    unfold State.selectCell
    simp only [h3, h4, h5, memRead_congr h2 h7 h]
    split_ifs with h6
    · rw [memRead_congr h2 h7 h, h6, hx]
    · rw [memRead_memWrite_same h7]
  · rfl

/-- No other cell changes at a full-select (R74). -/
theorem fullSelect_memRead_other (s : State) (d : Bool) {a : Addr} (h : a ≠ s.abus) :
    (s.fullSelect d).memRead a = s.memRead a := by
  have hc : (s.captureLatch d).memRead a = s.memRead a ∧ (s.captureLatch d).abus = s.abus := by
    unfold State.captureLatch
    split_ifs <;> exact ⟨rfl, rfl⟩
  cases he : s.params.env with
  | any => rw [fullSelect_any he]
  | ideal =>
    rw [fullSelect_ideal he]
    split_ifs with h1
    · unfold State.selectCell
      dsimp only
      split_ifs with h2
      · exact hc.1
      · rw [hc.2, memRead_memWrite_other _ _ h, hc.1]
    · rfl

/-- A full-select keeps the canonical form of the core plane. -/
theorem fullSelect_wf {s : State} (d : Bool) (hs : s.cells.wf = true) : (s.fullSelect d).cells.wf = true := by
  have hc : (s.captureLatch d).cells.wf = true := by
    unfold State.captureLatch
    split_ifs <;> exact hs
  cases h : s.params.env with
  | any => rw [fullSelect_any h]; exact hs
  | ideal =>
    rw [fullSelect_ideal h]
    split_ifs
    · unfold State.selectCell
      dsimp only
      split_ifs
      · exact hc
      · exact memWrite_wf _ _ hc
    · exact hs

theorem emit_br_y_inert (s : State) {v : BridgeState} (h : conducts v = false) :
    s.emit (.br .y v) = { s with ybr := v, trace := s.trace ++ [.br .y v] } := by
  simp [State.emit, State.applyEvent, State.driveBridge, h, State.setYbr]

theorem emit_br_y_conducting (s : State) {v : BridgeState} (h : conducts v = true) :
    s.emit (.br .y v) = { (s.setYbr v).fullSelect (v == .cd1) with trace := s.trace ++ [.br .y v] } := by
  have ht : ((s.setYbr v).fullSelect (v == .cd1)).trace = s.trace := by
    rw [fullSelect_frame]
    rfl
  simp [State.emit, State.applyEvent, State.driveBridge, h, ht]

/-- Every event keeps the canonical form of the core plane. -/
theorem emit_wf {s : State} (e : Event) (hs : s.cells.wf = true) : (s.emit e).cells.wf = true := by
  cases e with
  | ab b => exact hs
  | w n => exact hs
  | ss => exact hs
  | dbg => exact hs
  | lr v =>
    cases v
    · rw [emit_lr_false_frame]
      cases h : s.params.env <;> exact hs
    · exact hs
  | br k v =>
    cases k with
    | x => exact hs
    | inh0 => exact hs
    | inh1 => exact hs
    | y =>
      cases h : conducts v with
      | false => rw [emit_br_y_inert s h]; exact hs
      | true => rw [emit_br_y_conducting s h]; exact fullSelect_wf _ hs

/-! ## The wait's counter -/

/-- The down-counter of a wait always reaches 0 (R120, R242). -/
@[simp] theorem countDown_expires (k : Nat) : countDown k = 0 := by
  induction k with
  | zero => rfl
  | succ k ih => exact ih

/-- A wait leaves QCNT where its counting leaves it. -/
theorem waitQuanta_counts_down (s : State) (n : Nat) :
    s.waitQuanta n = { s with qcnt := countDown (quantaToCycles n) } := by
  rw [countDown_expires]
  rfl

/-! ## Slots -/

theorem slot_eq (s : State) (i : Nat) (e : Event) : s.slot i e = { s.emit e with upc := BitVec.ofNat 5 (i + 1) } := rfl

theorem slotIf_true (s : State) (i : Nat) (e : Event) : s.slotIf i true e = s.slot i e := rfl

theorem slotIf_false (s : State) (i : Nat) (e : Event) :
    s.slotIf i false e = { s with upc := BitVec.ofNat 5 (i + 1) } := rfl

theorem slot_wf {s : State} (i : Nat) (e : Event) (hs : s.cells.wf = true) : (s.slot i e).cells.wf = true :=
  emit_wf e hs

theorem slotIf_wf {s : State} (i : Nat) (c : Bool) (e : Event) (hs : s.cells.wf = true) :
    (s.slotIf i c e).cells.wf = true := by
  cases c
  · exact hs
  · exact emit_wf e hs

/-! ## Commands -/

theorem accept_busy {s : State} (h : s.busy = true) (op : Op) (a : Addr) (o : PulseOperands) : s.accept op a o = s := by
  simp [State.accept, h]

theorem accept_idle {s : State} (h : s.busy = false) (op : Op) (a : Addr) (o : PulseOperands) :
    s.accept op a o =
      { s with op := op, addr := a, dir := o.dir, mask := o.mask, rl := o.rl, upc := 0#5, phase := .p1 } := by
  simp [State.accept, h, State.startPulse]

theorem acceptValue_busy {s : State} (h : s.busy = true) (op : Op) (a : Addr) (v : Plane2) (o : PulseOperands) :
    s.acceptValue op a v o = s := by
  simp [State.acceptValue, h]

theorem acceptValue_idle {s : State} (h : s.busy = false) (op : Op) (a : Addr) (v : Plane2) (o : PulseOperands) :
    s.acceptValue op a v o =
      { s with
        op := op, addr := a, value := v, dir := o.dir, mask := o.mask, rl := o.rl, upc := 0#5, phase := .p1 } := by
  simp [State.acceptValue, h, State.startPulse]

/-! ## Reset -/

theorem resetBlock_cells_idle {s : State} (h : s.busy = false) : s.resetBlock.cells = s.cells := by
  simp [State.resetBlock, State.cellsAfterReset, h]

/-- ENV_IDEAL: a reset changes no cell but the addressed one (R224). -/
theorem resetBlock_memRead_other {s : State} (he : s.params.env = .ideal) {a : Addr} (h : a ≠ s.addr) :
    s.resetBlock.memRead a = s.memRead a := by
  have hc : s.resetBlock.cells = s.cellsAfterReset := rfl
  have hw : (s.memWrite s.addr (Config.freePair s.freeCount)).memRead a = s.memRead a := memRead_memWrite_other s _ h
  cases hb : s.busy with
  | false => exact memRead_congr (resetBlock_cells_idle hb) he he a
  | true =>
    rw [← hw]
    exact memRead_congr (s := s.resetBlock) (t := s.memWrite s.addr (Config.freePair s.freeCount))
      (by rw [hc]; simp [State.cellsAfterReset, hb, State.memWrite, State.setCells]) he he a

theorem resetBlock_wf {s : State} (hs : s.cells.wf = true) : s.resetBlock.cells.wf = true := by
  have hc : s.resetBlock.cells = s.cellsAfterReset := rfl
  rw [hc]
  unfold State.cellsAfterReset
  split_ifs
  · exact memoryWrite_wf _ _ hs
  · exact hs

end Sys2Proof.Machine
end

