-- ==== Sys2Proof/Laws/PerInstr.lean ====
section
/-! SUPPORT. Per instruction: the encoded code of every instruction lies in the instruction's own row of
spec/opcode_table.json (the row's match under the row's mask, in the row's format). -/

namespace Sys2Proof.Laws.RowMatch

/-- The canonical code of the instruction lies in the instruction's row of the opcode table. -/
def Statement (i : Instr) : Prop := inRow i (encode i) = true

theorem packCmd_op (op : BitVec 2) (rl dir : Bool) (val : Plane2) (addr : Addr) :
    packCmd op rl dir val addr &&& 0x3000#16 = op.setWidth 16 <<< 12 :=
  (and_mask_iff_fieldOp _ _).2 (fieldOp_packCmd op rl dir val addr)

theorem pulse (a : Addr) (d : Bool) (m : Plane2) (r : Bool) : Statement (.pulse a d m r) := by
  simp only [Statement, encode, inRow, packCmd_op]
  decide

theorem write (a : Addr) (v : Plane2) : Statement (.write a v) := by
  simp only [Statement, encode, inRow, packCmd_op]
  decide

theorem read (a : Addr) : Statement (.read a) := by
  simp only [Statement, encode, inRow, packCmd_op]
  decide

theorem reservedOp3 : Statement .reservedOp3 := rfl
theorem s0Ab : Statement .s0Ab := rfl
theorem s1W2 : Statement .s1W2 := rfl
theorem s2Lrf : Statement .s2Lrf := rfl
theorem s3Brx : Statement .s3Brx := rfl
theorem s4Lrt : Statement .s4Lrt := rfl
theorem s5Bri0 : Statement .s5Bri0 := rfl
theorem s6Bri1 : Statement .s6Bri1 := rfl
theorem s7W1a : Statement .s7W1a := rfl
theorem s8Bry : Statement .s8Bry := rfl
theorem s9W10 : Statement .s9W10 := rfl
theorem s10BryOff : Statement .s10BryOff := rfl
theorem s11W1b : Statement .s11W1b := rfl
theorem s12Bri0Off : Statement .s12Bri0Off := rfl
theorem s13Bri1Off : Statement .s13Bri1Off := rfl
theorem s14BrxOff : Statement .s14BrxOff := rfl
theorem s15W5a : Statement .s15W5a := rfl
theorem s16W5b : Statement .s16W5b := rfl
theorem ss : Statement .ss := rfl

end Sys2Proof.Laws.RowMatch
end

