-- ==== Sys2Proof/Laws/Run.lean ====
section
/-! SUPPORT. Runs of several steps: one more step in front, and what a low `rst` over some steps gives. -/

namespace Sys2Proof.Machine

/-- A step and the run after it make the run. -/
theorem runSteps_succ {s t : State} {k : Nat} {r : Host.Outcome State Fault Refusal} (h : step s = .next t)
    (hk : runSteps k t = r) : runSteps (k + 1) s = r := by
  simp only [runSteps, h, hk]

/-- With `rst` low for `n` steps, its level is low at each of them. -/
theorem noReset_low {s : State} {n : Nat} (h : s.noReset n) {j : Nat} (hj : j < n) :
    (s.rstIn.drop j).headD false = false := by
  rw [List.headD_eq_head?_getD, List.head?_drop]
  cases he : s.rstIn[j]? with
  | none => rfl
  | some b =>
    obtain ⟨h1, h2⟩ := List.getElem?_eq_some_iff.1 he
    exact h _ (List.mem_take_iff_getElem.2 ⟨j, by omega, h2⟩)

end Sys2Proof.Machine
end

