-- ==== Sys2Proof/Laws/Slots.lean ====
section
/-! SUPPORT. Every slot's meaning as one conditional event, and what events and slots leave unchanged. -/

namespace Sys2Proof.Machine

/-- A slot's meaning is its one event, emitted under its condition: no sample, no strobe; the event drives Y into conduction in
slot 8 alone, and only slots 2, 5 and 6 have a condition. -/
theorem slot_exec {i : Instr} {u : Upc} {s t : State} (h : encode i = .slot u) (he : exec i s = .next t) :
    ∃ c e, t = s.slotIf u.toNat c e ∧ u.toNat ≤ 16 ∧ e ≠ .ss ∧ e ≠ .dbg ∧
      (∀ v, e = .br .y v → u.toNat = 8 ∨ conducts v = false) ∧
      (u.toNat ≠ 2 → u.toNat ≠ 5 → u.toNat ≠ 6 → c = true) := by
  have nc := conducts_noConduction s.params
  cases i <;> simp only [encode, reduceCtorEq, Code.slot.injEq] at h <;> subst h <;> cases he <;>
  first
  | (refine ⟨true, _, rfl, by decide, by simp, by simp, ?_, fun _ _ _ => rfl⟩; intro v h; simp at h; done)
  | (refine ⟨true, _, rfl, by decide, by simp, by simp, ?_, fun _ _ _ => rfl⟩; intro v h; cases h
     first | exact .inl rfl | exact .inr nc)
  | (refine ⟨_, _, rfl, by decide, by simp, by simp, ?_, fun _ _ _ => absurd rfl ‹_›⟩; intro v h; cases h)

/-- Slot 8 with its full-select spelled out. -/
theorem execS8Bry_eq (s : State) :
    exec .s8Bry s = .next
      { (s.setYbr (yDrive s.dir)).fullSelect s.dir with
        trace := s.trace ++ [.br .y (yDrive s.dir)], upc := 9#5 } := by
  simp only [exec, execS8Bry, slot_eq, emit_br_y_conducting _ (conducts_yDrive s.dir), yDrive_direction]

/-- SS with its event and the start of the restore pulse spelled out. -/
theorem execSs_eq (s : State) :
    exec .ss s = .next
      { s with
        value := s.senseLevels, dir := true, mask := s.senseLevels, rl := false, upc := 0#5, phase := .p2
        trace := s.trace ++ [.ss], senseIn := s.senseRest, freeCount := s.freeCount + 1 } := rfl

/-- What an event leaves unchanged: everything but the output registers, QCNT, the latch and the trace; but for SS also VALUE and
the sense inputs; and the core plane, unless it drives Y into conduction. ENV_IDEAL: no cell elsewhere ever changes. -/
structure EventFrame (s t : State) (e : Event) : Prop where
  params : t.params = s.params
  op : t.op = s.op
  addr : t.addr = s.addr
  dir : t.dir = s.dir
  mask : t.mask = s.mask
  rl : t.rl = s.rl
  value : e ≠ .ss → t.value = s.value
  senseIn : e ≠ .ss → t.senseIn = s.senseIn
  freeCount : e ≠ .ss → t.freeCount = s.freeCount
  rdata : t.rdata = s.rdata
  phase : t.phase = s.phase
  done : t.done = s.done
  rstIn : t.rstIn = s.rstIn
  cmdIn : t.cmdIn = s.cmdIn
  trace : t.trace = s.trace ∨ t.trace = s.trace ++ [e]
  cells : (∀ v, e = .br .y v → conducts v = false) → t.cells = s.cells
  memRead : s.params.env = .ideal → ∀ a, a ≠ s.abus → t.memRead a = s.memRead a

/-- Nothing done keeps everything. -/
theorem eventFrame_refl (s : State) (e : Event) : EventFrame s s e :=
  ⟨rfl, rfl, rfl, rfl, rfl, rfl, fun _ => rfl, fun _ => rfl, fun _ => rfl, rfl, rfl, rfl, rfl, rfl, .inl rfl,
    fun _ => rfl, fun _ _ _ => rfl⟩

/-- The frame of an emitted event. -/
theorem emit_frame (s : State) (e : Event) : EventFrame s (s.emit e) e ∧ (s.emit e).upc = s.upc := by
  have easy : ∀ t : State, t.cells = s.cells → t.params = s.params → s.params.env = .ideal →
      ∀ a, a ≠ s.abus → t.memRead a = s.memRead a := fun t h hp he a _ => memRead_congr h (hp ▸ he) he a
  cases e with
  | ab b => exact ⟨by constructor <;> first | exact easy _ rfl rfl | simp [emit_ab], rfl⟩
  | w n => exact ⟨by constructor <;> first | exact easy _ rfl rfl | simp [emit_w], rfl⟩
  | ss => exact ⟨by constructor <;> first | exact easy _ rfl rfl | simp [emit_ss], rfl⟩
  | dbg => exact ⟨by constructor <;> first | exact easy _ rfl rfl | simp [emit_dbg], rfl⟩
  | lr v =>
    cases v
    · rw [emit_lr_false_frame]; exact ⟨by constructor <;> first | exact easy _ rfl rfl | simp, rfl⟩
    · rw [emit_lr_true]; exact ⟨by constructor <;> first | exact easy _ rfl rfl | simp, rfl⟩
  | br k v =>
    cases k with
    | x => exact ⟨by constructor <;> first | exact easy _ rfl rfl | simp [emit_br_x], rfl⟩
    | inh0 => exact ⟨by constructor <;> first | exact easy _ rfl rfl | simp [emit_br_inh0], rfl⟩
    | inh1 => exact ⟨by constructor <;> first | exact easy _ rfl rfl | simp [emit_br_inh1], rfl⟩
    | y =>
      cases h : conducts v with
      | false => rw [emit_br_y_inert s h]; exact ⟨by constructor <;> first | exact easy _ rfl rfl | simp, rfl⟩
      | true =>
        rw [emit_br_y_conducting s h]
        have f := fullSelect_frame (s.setYbr v) (v == .cd1)
        refine ⟨⟨?_, ?_, ?_, ?_, ?_, ?_, ?_, ?_, ?_, ?_, ?_, ?_, ?_, ?_, .inr rfl, ?_, ?_⟩, by dsimp only; rw [f]; rfl⟩
        case refine_15 => intro h'; have := h' v rfl; rw [h] at this; cases this
        case refine_16 =>
          intro he a ha
          have hp : ((s.setYbr v).fullSelect (v == .cd1)).params.env = .ideal := by rw [f]; exact he
          refine Eq.trans (memRead_congr ?_ ?_ ?_ a) (fullSelect_memRead_other (s.setYbr v) (v == .cd1) ha)
          exacts [rfl, hp, hp]
        all_goals first | (dsimp only; rw [f]; rfl) | (intro _; dsimp only; rw [f]; rfl)

/-- The frame of a slot, which moves UPC on by one. -/
theorem slotIf_frame (s : State) (i : Nat) (c : Bool) (e : Event) :
    EventFrame s (s.slotIf i c e) e ∧ (s.slotIf i c e).upc = BitVec.ofNat 5 (i + 1) := by
  cases c
  · obtain ⟨h1, h2, h3, h4, h5, h6, h7, h8, h9, h10, h11, h12, h13, h14, h15, h16, h17⟩ := eventFrame_refl s e
    exact ⟨⟨h1, h2, h3, h4, h5, h6, h7, h8, h9, h10, h11, h12, h13, h14, h15, h16, h17⟩, rfl⟩
  · obtain ⟨⟨h1, h2, h3, h4, h5, h6, h7, h8, h9, h10, h11, h12, h13, h14, h15, h16, h17⟩, -⟩ := emit_frame s e
    exact ⟨⟨h1, h2, h3, h4, h5, h6, h7, h8, h9, h10, h11, h12, h13, h14, h15, h16, h17⟩, rfl⟩

end Sys2Proof.Machine
end

