-- ==== Sys2Proof/Laws/Step.lean ====
section
/-! SUPPORT. Everything a step can do, once. -/

namespace Sys2Proof.Machine

/-- Where a step answers a next state, it is one of: a reset, the recovery from an unreachable place, rest, the end of a
pulse, or a decoded instruction run in the state with the inputs moved on. -/
theorem step_cases {s t : State} (h : step s = .next t) :
    (s.rstHigh = true ∧ t = s.clockIn.resetBlock) ∨
    (s.rstHigh = false ∧ s.onSequence = false ∧ t = s.clockIn.resetBlock) ∨
    (s.rstHigh = false ∧ s.onSequence = true ∧ s.fetch = none ∧ t = s.clockIn) ∨
    (s.rstHigh = false ∧ s.onSequence = true ∧ (s.phase = .p1 ∨ s.phase = .p2) ∧ s.upc = 17#5 ∧
      t = s.clockIn.endPulse) ∨
    (s.rstHigh = false ∧ s.onSequence = true ∧
      ∃ c i, s.fetch = some c ∧ decode c = .ok i ∧ exec i s.beforeExec = .next t) := by
  unfold step at h
  cases hr : s.rstHigh with
  | true => simp_all
  | false =>
    cases ho : s.onSequence with
    | false => simp_all [State.recover]
    | true =>
      simp only [hr, ho, Bool.not_true, Bool.false_eq_true, if_false] at h
      cases hf : s.fetch with
      | none => simp_all
      | some c =>
        simp only [hf] at h
        cases hd : decode c with
        | ok i =>
          simp only [hd] at h
          exact .inr (.inr (.inr (.inr ⟨rfl, rfl, c, i, rfl, hd, h⟩)))
        | error e =>
          have hp : c = .slot s.upc ∧ (s.phase = .p1 ∨ s.phase = .p2) ∧ s.upc.toNat ≤ 17 := by
            unfold State.fetch at hf
            unfold State.onSequence at ho
            cases hph : s.phase with
            | idle =>
              simp only [hph, Option.map_eq_some_iff] at hf
              obtain ⟨w, -, rfl⟩ := hf
              simp [decode] at hd
            | sample =>
              simp only [hph, Option.some.injEq] at hf
              subst hf
              simp [decode, decodePhase, Phase.code] at hd
            | p1 => simp_all
            | p2 => simp_all
          obtain ⟨rfl, hph, hu⟩ := hp
          have he : s.upc = 17#5 ∧ e = .endMarker := by
            revert hd hu
            simp only [decode]
            generalize s.upc = u
            cases e <;> revert u <;> decide
          obtain ⟨hu, rfl⟩ := he
          simp only [hd] at h
          cases h
          simp_all

/-- A slot number decodes to the slot whose code it is. -/
theorem decodeSlot_ok {n : Upc} {i : Instr} (h : decodeSlot n = .ok i) : encode i = .slot n := by
  have key : ∀ n : Upc, (match decodeSlot n with | .ok i => decide (encode i = .slot n) | .error _ => true) = true := by
    decide
  have hn := key n
  rw [h] at hn
  exact of_decide_eq_true hn

/-- What the block fetches and decodes: an offered word when idle, the slot at UPC in a pulse, SS in SAMPLE. -/
theorem fetch_cases {s : State} {c : Code} {i : Instr} (hf : s.fetch = some c) (hd : decode c = .ok i) :
    (s.phase = .idle ∧ ∃ w ws, s.cmdIn = w :: ws ∧ i = decodeCmd w) ∨
    ((s.phase = .p1 ∨ s.phase = .p2) ∧ encode i = .slot s.upc) ∨
    (s.phase = .sample ∧ i = .ss) := by
  unfold State.fetch at hf
  cases hp : s.phase with
  | idle =>
    cases hc : s.cmdIn with
    | nil => simp [hp, hc] at hf
    | cons w ws =>
      simp only [hp, hc, List.head?_cons, Option.map_some, Option.some.injEq] at hf
      subst hf
      simp only [decode, Except.ok.injEq] at hd
      exact .inl ⟨rfl, w, ws, rfl, hd.symm⟩
  | sample =>
    simp only [hp, Option.some.injEq] at hf
    subst hf
    simp only [decode, decodePhase, Phase.code] at hd
    cases hd
    exact .inr (.inr ⟨rfl, rfl⟩)
  | p1 =>
    simp only [hp, Option.some.injEq] at hf
    subst hf
    exact .inr (.inl ⟨.inl rfl, decodeSlot_ok hd⟩)
  | p2 =>
    simp only [hp, Option.some.injEq] at hf
    subst hf
    exact .inr (.inl ⟨.inr rfl, decodeSlot_ok hd⟩)

/-- The instruction runs in the state with the inputs moved on; only an idle block takes a word. -/
theorem beforeExec_busy {s : State} (h : s.phase ≠ .idle) : s.beforeExec = s.clockIn := by
  unfold State.beforeExec State.takeCommand
  cases hp : s.phase <;> simp_all

theorem beforeExec_idle {s : State} (h : s.phase = .idle) :
    s.beforeExec = { s with rstIn := s.rstIn.tail, done := false, cmdIn := s.cmdIn.tail } := by
  simp [State.beforeExec, State.takeCommand, State.clockIn, h]

/-- The end of a pulse loads operands, PHASE, UPC, `done` and, of a READ, RDATA; nothing else changes. -/
theorem endPulse_frame (s : State) : ∃ d m r rd ph dn u,
    s.endPulse = { s with dir := d, mask := m, rl := r, rdata := rd, phase := ph, done := dn, upc := u } ∧
    (rd = s.rdata ∨ s.phase = .p2 ∧ s.op = .read ∧ rd = s.value ∧ ph = .idle ∧ dn = true) := by
  unfold State.endPulse
  split
  · exact ⟨s.dir, s.mask, s.rl, s.rdata, _, _, _, rfl, .inl rfl⟩
  · exact ⟨_, _, _, s.rdata, _, s.done, _, rfl, .inl rfl⟩
  · exact ⟨s.dir, s.mask, s.rl, s.rdata, _, s.done, _, rfl, .inl rfl⟩
  · exact ⟨s.dir, s.mask, s.rl, _, _, _, _, rfl, .inr ⟨‹_›, ‹_›, rfl, rfl, rfl⟩⟩
  · exact ⟨s.dir, s.mask, s.rl, s.rdata, _, _, _, rfl, .inl rfl⟩
  · exact ⟨s.dir, s.mask, s.rl, s.rdata, _, _, _, rfl, .inl rfl⟩
  · exact ⟨s.dir, s.mask, s.rl, s.rdata, s.phase, s.done, s.upc, rfl, .inl rfl⟩
  · exact ⟨s.dir, s.mask, s.rl, s.rdata, s.phase, s.done, s.upc, rfl, .inl rfl⟩

/-- What an accepted command writes: OP, ADDR, VALUE of a WRITE, the operands of its first pulse, and the start of that pulse. -/
theorem decodeCmd_exec {w : Word} {s t : State} (hp : s.phase = .idle) (he : exec (decodeCmd w) s = .next t) :
    ∃ op a o v,
      t = { s with
        op := op, addr := a, dir := o.dir, mask := o.mask, rl := o.rl, value := v, upc := 0#5, phase := .p1 } ∧
      (v = s.value ∨ decodeCmd w = .write a v) ∧
      (op = .pulse ∨ op = .write ∧ o = clearOperands ∨ op = .read ∧ o = destructiveReadOperands) := by
  have hb : s.busy = false := by simp [State.busy, hp]
  unfold decodeCmd at *
  split at he <;> cases he
  · exact ⟨.pulse, _, _, s.value, accept_idle hb _ _ _, .inl rfl, .inl rfl⟩
  · exact ⟨.write, _, _, _, acceptValue_idle hb _ _ _ _, .inr rfl, .inr (.inl ⟨rfl, rfl⟩)⟩
  · exact ⟨.read, _, _, s.value, accept_idle hb _ _ _, .inl rfl, .inr (.inr ⟨rfl, rfl⟩)⟩

/-- Everything a step can do, with the state each instruction runs in spelled out. -/
theorem step_inversion {s t : State} (h : step s = .next t) :
    (s.rstHigh = true ∨ s.onSequence = false) ∧ t = s.clockIn.resetBlock ∨
    s.rstHigh = false ∧ s.onSequence = true ∧
      (s.phase = .idle ∧ t = s.clockIn ∨
       (s.phase = .p1 ∨ s.phase = .p2) ∧ s.upc = 17#5 ∧ t = s.clockIn.endPulse ∨
       (s.phase = .idle ∧ ∃ w ws, s.cmdIn = w :: ws ∧
          exec (decodeCmd w) { s with rstIn := s.rstIn.tail, done := false, cmdIn := ws } = .next t) ∨
       ((s.phase = .p1 ∨ s.phase = .p2) ∧ ∃ i, encode i = .slot s.upc ∧ exec i s.clockIn = .next t) ∨
       s.phase = .sample ∧ exec .ss s.clockIn = .next t) := by
  rcases step_cases h with ⟨a, b⟩ | ⟨_, b, c⟩ | ⟨a, b, c, d⟩ | ⟨a, b, c, d, e⟩ | ⟨a, b, c, i, hf, hd, he⟩
  · exact .inl ⟨.inl a, b⟩
  · exact .inl ⟨.inr b, c⟩
  · refine .inr ⟨a, b, .inl ⟨?_, d⟩⟩
    cases hp : s.phase <;> simp [State.fetch, hp] at c ⊢
  · exact .inr ⟨a, b, .inr (.inl ⟨c, d, e⟩)⟩
  · rcases fetch_cases hf hd with ⟨hp, w, ws, hc, hi⟩ | ⟨hp, hi⟩ | ⟨hp, hi⟩
    · rw [beforeExec_idle hp, hi] at he
      simp only [hc, List.tail_cons] at he
      exact .inr ⟨a, b, .inr (.inr (.inl ⟨hp, w, ws, hc, he⟩))⟩
    · rw [beforeExec_busy (by rcases hp with hp | hp <;> simp [hp])] at he
      exact .inr ⟨a, b, .inr (.inr (.inr (.inl ⟨hp, i, hi, he⟩)))⟩
    · rw [beforeExec_busy (by simp [hp]), hi] at he
      exact .inr ⟨a, b, .inr (.inr (.inr (.inr ⟨hp, he⟩)))⟩

/-- In a legal place, a step at UPC 17 is the end of the pulse. -/
theorem step_endPulse {s : State} (hr : s.rstHigh = false) (ho : s.onSequence = true)
    (hp : s.phase = .p1 ∨ s.phase = .p2) (hu : s.upc = 17#5) : step s = .next s.clockIn.endPulse := by
  have hf : s.fetch = some (.slot 17#5) := by
    unfold State.fetch
    rcases hp with hp | hp <;> simp [hp, hu]
  have hd : decode (.slot 17#5) = .error .endMarker := by decide
  simp [step, hr, ho, hf, hd]

end Sys2Proof.Machine
end

