-- ==== Sys2Proof/Tests/Slice0.lean ====
section
/-! SUPPORT. Tests: well-formedness, decoding of words written out from the spec's encodings, one step of each instruction with
the values of 95_test_vectors, and for each statement with hypotheses a state and operands that meet them. -/

namespace Sys2Proof.Tests

open Sys2Proof.Machine

/-! ## Well-formedness (30_encoding R101, R102) -/

theorem test_wf_refuses_reserved : Instr.reservedOp3.wf = false := by decide

theorem test_wf_accepts_others :
    (Instr.pulse 0xFF#8 true 0b11#2 true).wf = true ∧ Instr.s16W5b.wf = true ∧ Instr.ss.wf = true := by decide

/-- Bits 15:14 set (0xC500), bits 11:10 of a WRITE set (0x1E10), bits 11:8 of a READ set (0x2F10), `op` 3 (0x3000). -/
theorem test_wf_refuses_uncanonical :
    Word.canonical 0xC500#16 = false ∧ Word.canonical 0x1E10#16 = false ∧ Word.canonical 0x2F10#16 = false ∧
    Word.canonical 0x3000#16 = false := by decide

theorem test_wf_accepts_canonical :
    Word.canonical 0x0FFF#16 = true ∧ Word.canonical 0x13FF#16 = true ∧ Word.canonical 0x20FF#16 = true := by decide

/-! ## Decoding, each word bit by bit from its encoding (30_encoding R90 to R94, R100, R101; the calls of 95_test_vectors 2.2) -/

/-- `zz 00 r d mm aaaaaaaa`: `pulse(0x21, false, 0b11, true)` is 0x0B21. -/
theorem test_decode_pulse :
    decodeCmd 0b00_00_1_0_11_00100001#16 = .pulse 0x21#8 false 0b11#2 true ∧
    decodeCmd 0b11_00_0_1_01_00000000#16 = .pulse 0x00#8 true 0b01#2 false := by decide

/-- `zz 01 xx vv aaaaaaaa`: `write(0x10, 0b10)` is 0x1210, and 0x1E10 too. -/
theorem test_decode_write :
    decodeCmd 0b00_01_00_10_00010000#16 = .write 0x10#8 0b10#2 ∧
    decodeCmd 0b00_01_11_10_00010000#16 = .write 0x10#8 0b10#2 := by decide

/-- `zz 10 xxxx aaaaaaaa`: `read(0x10)` is 0x2010, and 0xEF10 too. -/
theorem test_decode_read :
    decodeCmd 0b00_10_0000_00010000#16 = .read 0x10#8 ∧ decodeCmd 0b11_10_1111_00010000#16 = .read 0x10#8 := by decide

/-- `zz 11 xxxxxxxxxxxx`. -/
theorem test_decode_reserved :
    decodeCmd 0b00_11_000000000000#16 = .reservedOp3 ∧ decodeCmd 0b11_11_111111111111#16 = .reservedOp3 := by decide

theorem test_decode_slots_low :
    decodeSlot 0b00000#5 = .ok .s0Ab ∧ decodeSlot 0b00001#5 = .ok .s1W2 ∧ decodeSlot 0b00010#5 = .ok .s2Lrf ∧
    decodeSlot 0b00011#5 = .ok .s3Brx ∧ decodeSlot 0b00100#5 = .ok .s4Lrt ∧ decodeSlot 0b00101#5 = .ok .s5Bri0 ∧
    decodeSlot 0b00110#5 = .ok .s6Bri1 ∧ decodeSlot 0b00111#5 = .ok .s7W1a ∧ decodeSlot 0b01000#5 = .ok .s8Bry :=
  ⟨rfl, rfl, rfl, rfl, rfl, rfl, rfl, rfl, rfl⟩

theorem test_decode_slots_high :
    decodeSlot 0b01001#5 = .ok .s9W10 ∧ decodeSlot 0b01010#5 = .ok .s10BryOff ∧ decodeSlot 0b01011#5 = .ok .s11W1b ∧
    decodeSlot 0b01100#5 = .ok .s12Bri0Off ∧ decodeSlot 0b01101#5 = .ok .s13Bri1Off ∧
    decodeSlot 0b01110#5 = .ok .s14BrxOff ∧ decodeSlot 0b01111#5 = .ok .s15W5a ∧ decodeSlot 0b10000#5 = .ok .s16W5b :=
  ⟨rfl, rfl, rfl, rfl, rfl, rfl, rfl, rfl⟩

theorem test_decode_slot_errors :
    decodeSlot 0b10001#5 = .error .endMarker ∧ decodeSlot 0b10010#5 = .error .noSlot ∧
    decodeSlot 0b11111#5 = .error .noSlot := ⟨rfl, rfl, rfl⟩

theorem test_decode_phase :
    decodePhase 0b10#2 = .ok .ss ∧ decodePhase 0b00#2 = .error .noPhaseOp ∧ decodePhase 0b01#2 = .error .noPhaseOp ∧
    decodePhase 0b11#2 = .error .noPhaseOp := ⟨rfl, rfl, rfl, rfl⟩

/-- The words of the table's rows, as the host numbers them. -/
theorem test_decode_table_words :
    decodeTableWord 16 0x0500 = some (.pulse 0x00#8 true 0b01#2 false) ∧ decodeTableWord 16 0x3000 = some .reservedOp3 ∧
    decodeTableWord 8 0x10 = some .s16W5b ∧ decodeTableWord 8 0x11 = none ∧ decodeTableWord 2 0x2 = some .ss := by decide

theorem test_encode_words :
    encode (.pulse 0x77#8 true 0b01#2 false) = .cmd 0x0577#16 ∧ encode (.write 0xA5#8 0b01#2) = .cmd 0x11A5#16 ∧
    encode (.read 0xFF#8) = .cmd 0x20FF#16 := by decide

/-- `write(0x10, 7)` is 0x1310 (95_test_vectors 2.2), and a number above 255 keeps its low 8 bits (R62, R99). -/
theorem test_wide_operands :
    encode (callWrite 0x10 7) = .cmd 0x1310#16 ∧ encode (callRead 0x3FF) = .cmd 0x20FF#16 ∧
    encode (callPulse 0x177 true 0b101 false) = .cmd 0x0577#16 := by decide

/-! ## Address decode (95_test_vectors 2.1) -/

theorem test_decode_address :
    addressDecode 0x0F#8 = (15, 0, true, true) ∧ addressDecode 0x5A#8 = (10, 5, true, false) ∧
    addressDecode 0x7F#8 = (15, 7, false, false) ∧ addressDecode 0x80#8 = (0, 8, false, true) ∧
    addressDecode 0xE1#8 = (1, 14, true, true) ∧ addressDecode 0xFF#8 = (15, 15, false, false) := by decide

/-! ## One instruction each, in a small state -/

/-- The state an instruction leaves, or the same state where it leaves none. -/
def after (i : Instr) (s : State) : State :=
  match exec i s with
  | .next t => t
  | .fault _ => s
  | .refused _ => s

/-- `pulse(0xA5, false, 0b00, true)` at a slot (95_test_vectors 2.4). -/
def slotAt (n : Nat) : State :=
  { State.reset with
    op := .pulse, addr := 0xA5#8, dir := false, mask := 0b00#2, rl := true, phase := .p1, upc := BitVec.ofNat 5 n
    abus := 0xA5#8, cells := [(0xA4, 0b11#8), (0xA5, 0b11#8)] }

/-- A set pulse with `direction` true and mask 0b10 at 0x10, where the cell holds `v`, before slot 8 (95_test_vectors 2.3,
2.7). -/
def setPulseAtSlot8 (v : BitVec 8) : State :=
  { slotAt 8 with
    addr := 0x10#8, abus := 0x10#8, dir := true, mask := 0b10#2, xbr := .cd1, inh0 := .cd2, inh1 := .nca, lrst := true
    cells := [(0x10, v)] }

/-- The destructive read of 0x10 before slot 8, where the cell holds `v`. -/
def clearPulseAtSlot8 (v : BitVec 8) : State :=
  { slotAt 8 with
    op := .read, addr := 0x10#8, abus := 0x10#8, dir := false, mask := 0b11#2, xbr := .cd2, lrst := true
    latch := 0b00#2, latchFixed := true, cells := [(0x10, v), (0x11, 0b11#8)] }

/-- A READ in SAMPLE with the latch holding 0b10. -/
def inSample : State :=
  { State.reset with
    op := .read, addr := 0x10#8, mask := 0b11#2, rl := true, phase := .sample, abus := 0x10#8, lrst := true
    latch := 0b10#2, latchFixed := true }

theorem test_pulse_accepted :
    (after (.pulse 0x77#8 true 0b01#2 true) State.reset).op = .pulse ∧
    (after (.pulse 0x77#8 true 0b01#2 true) State.reset).addr = 0x77#8 ∧
    (after (.pulse 0x77#8 true 0b01#2 true) State.reset).dir = true ∧
    (after (.pulse 0x77#8 true 0b01#2 true) State.reset).mask = 0b01#2 ∧
    (after (.pulse 0x77#8 true 0b01#2 true) State.reset).rl = true ∧
    (after (.pulse 0x77#8 true 0b01#2 true) State.reset).phase = .p1 := by decide

theorem test_pulse_not_accepted_when_busy : after (.pulse 0x77#8 true 0b01#2 true) (slotAt 9) = slotAt 9 := by decide

/-- The first row of the `write` list of 95_test_vectors 1.2. -/
theorem test_write_accepted :
    (after (.write 0x10#8 0b10#2) State.reset).value = 0b10#2 ∧
    (after (.write 0x10#8 0b10#2) State.reset).dir = false ∧
    (after (.write 0x10#8 0b10#2) State.reset).mask = 0b11#2 ∧
    (after (.write 0x10#8 0b10#2) State.reset).rl = false := by decide

/-- The first row of the `read` list of 95_test_vectors 1.2. -/
theorem test_read_accepted :
    (after (.read 0x10#8) State.reset).op = .read ∧ (after (.read 0x10#8) State.reset).dir = false ∧
    (after (.read 0x10#8) State.reset).mask = 0b11#2 ∧ (after (.read 0x10#8) State.reset).rl = true := by decide

theorem test_reserved_refused : exec .reservedOp3 State.reset = .refused .reservedOp := rfl

theorem test_s0 : (after .s0Ab { slotAt 0 with abus := 0#8 }).abus = 0xA5#8 := by decide

theorem test_s1 : (after .s1W2 (slotAt 1)).trace = [.w 2] ∧ (after .s1W2 (slotAt 1)).upc = 2#5 := by decide

theorem test_s2 : (after .s2Lrf { slotAt 2 with lrst := true }).lrst = false := by decide

theorem test_s2_off : (after .s2Lrf { slotAt 2 with rl := false }).trace = [] := by decide

theorem test_s3 : (after .s3Brx (slotAt 3)).xbr = .cd2 := by decide

/-- `pulse(0x11, false, ...)` and `pulse(0x01, true, ...)` drive X to CD1. -/
theorem test_s3_other :
    (after .s3Brx { slotAt 3 with addr := 0x11#8 }).xbr = .cd1 ∧
    (after .s3Brx { slotAt 3 with addr := 0x01#8, dir := true }).xbr = .cd1 := by decide

theorem test_s4 : (after .s4Lrt (slotAt 4)).lrst = true ∧ (after .s4Lrt (slotAt 4)).trace = [.lr true] := by decide

theorem test_s5 : (after .s5Bri0 (slotAt 5)).inh0 = .cd2 ∧ (after .s5Bri0 (slotAt 5)).inh1 = .nca := by decide

/-- `pulse(0x00, true, 0b01, false)` does not drive Inhibit-0. -/
theorem test_s5_masked :
    (after .s5Bri0 { slotAt 5 with addr := 0x00#8, dir := true, mask := 0b01#2 }).trace = [] := by decide

theorem test_s6 : (after .s6Bri1 (slotAt 6)).inh1 = .cd2 ∧ (after .s6Bri1 (slotAt 6)).inh0 = .nca := by decide

/-- `pulse(0x00, true, 0b01, false)` drives Inhibit-1 to CD1. -/
theorem test_s6_masked :
    (after .s6Bri1 { slotAt 6 with addr := 0x00#8, dir := true, mask := 0b01#2 }).inh1 = .cd1 := by decide

theorem test_s7 : (after .s7W1a (slotAt 7)).trace = [.w 1] ∧ (after .s7W1a (slotAt 7)).upc = 8#5 := by decide

/-- Direction true, mask 0b10, old 0b01: 0b11 (95_test_vectors 2.7), Y to CD1. Under ENV_ANY the line is driven as well, and the
cell holds any value (R79, U1). -/
theorem test_s8_set :
    (after .s8Bry (setPulseAtSlot8 0b01#8)).ybr = .cd1 ∧
    (after .s8Bry (setPulseAtSlot8 0b01#8)).memRead 0x10#8 = 0b11#2 ∧
    (after .s8Bry { setPulseAtSlot8 0b01#8 with params := { Params.default with env := .any } }).ybr = .cd1 ∧
    (after .s8Bry { setPulseAtSlot8 0b01#8 with params := { Params.default with env := .any } }).memRead 0x10#8 =
      Config.anyCell 1 0 0x10#8 := ⟨by decide, by decide, by decide, rfl⟩

/-- Direction false, mask 0b11, old 0b10: 0b00 and the latch takes 0b10 (95_test_vectors 2.7), Y to CD2; the neighbour keeps its
value. -/
theorem test_s8_clear :
    (after .s8Bry (clearPulseAtSlot8 0b10#8)).ybr = .cd2 ∧
    (after .s8Bry (clearPulseAtSlot8 0b10#8)).memRead 0x10#8 = 0b00#2 ∧
    (after .s8Bry (clearPulseAtSlot8 0b10#8)).latch = 0b10#2 ∧
    (after .s8Bry (clearPulseAtSlot8 0b10#8)).memRead 0x11#8 = 0b11#2 := by decide

theorem test_s9 : (after .s9W10 (slotAt 9)).trace = [.w 10] ∧ (after .s9W10 (slotAt 9)).upc = 10#5 := by decide

theorem test_s10 : (after .s10BryOff { slotAt 10 with ybr := .cd2 }).ybr = .nca := by decide

theorem test_s10_ncb :
    (after .s10BryOff { slotAt 10 with params := { Params.default with offEnc := .ncb }, ybr := .cd2 }).ybr = .ncb := by
  decide

theorem test_s11 : (after .s11W1b (slotAt 11)).trace = [.w 1] ∧ (after .s11W1b (slotAt 11)).upc = 12#5 := by decide

theorem test_s12 :
    (after .s12Bri0Off { slotAt 12 with inh0 := .cd2, inh1 := .cd2 }).inh0 = .nca ∧
    (after .s12Bri0Off { slotAt 12 with inh0 := .cd2, inh1 := .cd2 }).inh1 = .cd2 := by decide

theorem test_s13 :
    (after .s13Bri1Off { slotAt 13 with inh1 := .cd2, xbr := .cd2 }).inh1 = .nca ∧
    (after .s13Bri1Off { slotAt 13 with inh1 := .cd2, xbr := .cd2 }).xbr = .cd2 := by decide

theorem test_s14 : (after .s14BrxOff { slotAt 14 with xbr := .cd2 }).xbr = .nca := by decide

theorem test_s15 : (after .s15W5a (slotAt 15)).trace = [.w 5] ∧ (after .s15W5a (slotAt 15)).upc = 16#5 := by decide

theorem test_s16 : (after .s16W5b (slotAt 16)).trace = [.w 5] ∧ (after .s16W5b (slotAt 16)).upc = 17#5 := by decide

theorem test_ss :
    (after .ss inSample).value = 0b10#2 ∧ (after .ss inSample).mask = 0b10#2 ∧ (after .ss inSample).dir = true ∧
    (after .ss inSample).rl = false ∧ (after .ss inSample).phase = .p2 := by decide

/-- The lying environment of P7: the sense inputs read 0b11 whatever the latch holds. -/
theorem test_ss_any :
    (after .ss { inSample with params := { Params.default with env := .any }, senseIn := [0b11#2] }).value = 0b11#2 := by
  decide

/-! ## Traces (95_test_vectors 2.3) -/

theorem test_trace_longest :
    pulseTrace Params.default 0xA5#8 false 0b00#2 true =
      [.ab 0xA5#8, .w 2, .lr false, .br .x .cd2, .lr true, .br .inh0 .cd2, .br .inh1 .cd2, .w 1, .br .y .cd2, .w 10,
       .br .y .nca, .w 1, .br .inh0 .nca, .br .inh1 .nca, .br .x .nca, .w 5, .w 5] := by decide

theorem test_trace_masked :
    pulseTrace Params.default 0x5A#8 true 0b01#2 true =
      [.ab 0x5A#8, .w 2, .lr false, .br .x .cd1, .lr true, .br .inh1 .cd2, .w 1, .br .y .cd1, .w 10,
       .br .y .nca, .w 1, .br .inh0 .nca, .br .inh1 .nca, .br .x .nca, .w 5, .w 5] := by decide

/-! ## One step -/

/-- Fetching an offered word runs it. -/
theorem test_withFetchWord :
    step (State.reset.withFetchWord 16 0x2010) = exec (.read 0x10#8) State.reset ∧
    step (State.reset.withFetchWord 8 0x09) = exec .s9W10 { State.reset with phase := .p1, upc := 9#5 } ∧
    step (State.reset.withFetchWord 2 0x2) = exec .ss { State.reset with phase := .sample, op := .read } :=
  ⟨rfl, rfl, rfl⟩

theorem test_done_at_end :
    step (slotAt 17) = .next { slotAt 17 with phase := .idle, upc := 0#5, done := true } := rfl

/-! ## States and operands that meet the hypotheses of each statement -/

/-- A WRITE of 0b10 at 0x10 whose clear pulse is at slot 9, every bridge in its window. -/
def writeAtSlot9 : State :=
  { State.reset with
    op := .write, addr := 0x10#8, value := 0b10#2, dir := false, mask := 0b11#2, phase := .p1, upc := 9#5
    abus := 0x10#8, lrst := true, xbr := .cd2, ybr := .cd2, cells := [(0x10, 0b00#8)] }

/-- The longest pulse at slot 10, all four bridges conducting. -/
def longestAtSlot10 : State := { slotAt 10 with lrst := true, xbr := .cd2, ybr := .cd2, inh0 := .cd2, inh1 := .cd2 }

/-- The idle block, offered a word. -/
def offered (w : Word) : State := { State.reset with cmdIn := [w, 0x3000#16] }

/-- The reserved word is refused when the idle block is offered it, and held while the block is busy. -/
theorem test_reserved_offered :
    step (offered 0x3000#16) = .refused .reservedOp ∧
    ∃ t, step { longestAtSlot10 with cmdIn := [0x3000#16] } = .next t ∧ t.cmdIn = [0x3000#16] := ⟨rfl, _, rfl, rfl⟩

theorem test_meets_CommandWordFields :
    0xCFFF#16 &&& 0x3000#16 = 0x0000#16 ∧ 0x0000#16 &&& 0x3000#16 = 0x0000#16 ∧
    0xDFFF#16 &&& 0x3000#16 = 0x1000#16 ∧ 0x1000#16 &&& 0x3000#16 = 0x1000#16 ∧
    0xEFFF#16 &&& 0x3000#16 = 0x2000#16 ∧ 0x2000#16 &&& 0x3000#16 = 0x2000#16 ∧
    0xFFFF#16 &&& 0x3000#16 = 0x3000#16 ∧ 0x3000#16 &&& 0x3000#16 = 0x3000#16 := by decide

theorem test_meets_IgnoredBitsReadAsZero :
    0xDE10#16 &&& 0x3000#16 = 0x1000#16 ∧ 0xEF10#16 &&& 0x3000#16 = 0x2000#16 := by decide

theorem test_meets_CanonicalWordsRoundTrip :
    (Instr.write 0xFF#8 0b11#2).wf = true ∧ encode (.write 0xFF#8 0b11#2) = .cmd 0x13FF#16 ∧
    Word.canonical 0x0000#16 = true ∧ Word.canonical 0x0FFF#16 = true := by decide

theorem test_meets_SlotAndPhaseNumbers :
    (0#5).toNat ≤ 16 ∧ (16#5).toNat ≤ 16 ∧ (17#5).toNat = 17 ∧ 17 < (18#5).toNat ∧ 17 < (31#5).toNat := by decide

theorem test_meets_DecodedCodeLiesInOneRow :
    decode (.cmd 0x0500#16) = .ok (.pulse 0x00#8 true 0b01#2 false) ∧
    inRow (.pulse 0xFF#8 false 0b11#2 true) (.cmd 0x0500#16) = true ∧ decode (.slot 16#5) = .ok .s16W5b ∧
    inRow .s16W5b (.slot 16#5) = true := ⟨rfl, rfl, rfl, rfl⟩

theorem test_meets_LatchResetSlots : (slotAt 2).rl = true ∧ ({ slotAt 2 with rl := false } : State).rl = false := by decide

theorem test_meets_drive_and_release_slots :
    BridgeState.cd2 = (if (slotAt 3).dir ^^ (slotAt 3).addr.getLsbD 0 ^^ (slotAt 3).addr.getLsbD 4 then .cd2 else .cd1) ∧
    BridgeState.cd2 = (if !(slotAt 5).addr.getLsbD 4 ^^ (slotAt 5).dir then .cd2 else .cd1) ∧
    BridgeState.nca = (if (slotAt 10).params.offEnc = .ncb then .ncb else .nca) := by decide

theorem test_meets_FullSelectSetsPlanes :
    (setPulseAtSlot8 0b01#8).params.env = .ideal ∧ (slotAt 8).params.env = .ideal ∧
    conducts (setPulseAtSlot8 0b01#8).xbr = true ∧ conducts (slotAt 8).xbr = false := by decide

theorem test_meets_SenseLatchCaptures :
    (slotAt 2).params.env = .ideal ∧ (clearPulseAtSlot8 0b10#8).params.env = .ideal ∧
    (slotAt 2).rl = true ∧ conducts (clearPulseAtSlot8 0b10#8).xbr = true ∧ (clearPulseAtSlot8 0b10#8).dir = false ∧
    (clearPulseAtSlot8 0b10#8).lrst = true := by decide

theorem test_meets_ReservedOpIsRefused : 0x3000#16 &&& 0x3000#16 = 0x3000#16 ∧ 0xFFFF#16 &&& 0x3000#16 = 0x3000#16 := by
  decide

theorem test_meets_SampleStartsRestorePulse :
    inSample.params.env = .ideal ∧ inSample.latchFixed = true ∧
    ({ inSample with params := { Params.default with env := .any }, senseIn := [0b11#2] } : State).params.env = .any := by
  decide

theorem test_meets_acceptance : State.reset.phase = .idle ∧ (slotAt 9).phase ≠ .idle ∧ inSample.phase ≠ .idle := by decide

theorem test_meets_StepRunsDecodedInstruction :
    (offered 0x2010#16).rstIn.headD false = false ∧ (offered 0x2010#16).phase = .idle ∧ (offered 0x2010#16).upc = 0#5 ∧
    (offered 0x2010#16).cmdIn = [0x2010#16, 0x3000#16] ∧
    (slotAt 16).rstIn.headD false = false ∧ (slotAt 16).phase = .p1 ∧ decode (.slot (slotAt 16).upc) = .ok .s16W5b ∧
    inSample.rstIn.headD false = false ∧ inSample.phase = .sample ∧ inSample.op = .read ∧ inSample.upc = 0#5 :=
  ⟨rfl, rfl, rfl, rfl, rfl, rfl, rfl, rfl, rfl, rfl, rfl⟩

theorem test_meets_IdleBlockRests :
    State.reset.rstIn.headD false = false ∧ State.reset.phase = .idle ∧ State.reset.upc = 0#5 ∧ State.reset.cmdIn = [] := by
  decide

/-- One state for each of the five clauses: the operation and the phase change, the rest is the same. -/
theorem test_meets_PulseEndReturnsToComposer :
    ∀ p : Phase, ∀ o : Op,
      ({ slotAt 17 with phase := p, op := o } : State).rstIn.headD false = false ∧
      ({ slotAt 17 with phase := p, op := o } : State).upc = 17#5 ∧
      ({ slotAt 17 with phase := p, op := o } : State).phase = p ∧ ({ slotAt 17 with phase := p, op := o } : State).op = o :=
  fun _ _ => ⟨rfl, rfl, rfl, rfl⟩

theorem test_meets_ResetWinsOverEverything :
    ({ slotAt 9 with rstIn := [true] } : State).rstIn.headD false = true ∧
    ({ State.reset with rstIn := [true] } : State).rstIn.headD false = true ∧
    ({ State.reset with rstIn := [true] } : State).phase = .idle ∧ (0xA4#8 : Addr) ≠ (slotAt 9).addr ∧
    ({ slotAt 9 with rstIn := [true] } : State).params.env = .ideal ∧
    ({ State.reset with rstIn := [true] } : State).params.env = .ideal := by decide

theorem test_meets_UnreachablePlaceReturnsToIdle :
    (slotAt 18).onSequence = false ∧ (slotAt 18).rstIn.headD false = false ∧
    ({ slotAt 9 with phase := .p2 } : State).onSequence = false ∧
    ({ slotAt 0 with phase := .sample } : State).onSequence = false := by decide

theorem test_meets_step_statements :
    (∃ t, step longestAtSlot10 = .next t) ∧ (∃ t, step inSample = .next t ∧ t.trace = inSample.trace ++ [.ss]) :=
  ⟨⟨_, rfl⟩, ⟨_, rfl, rfl⟩⟩

/-- Slot 8 itself, and a slot that is not it. -/
theorem test_meets_OnlyFullSelectChangesCells :
    (clearPulseAtSlot8 0b10#8).params.env = .ideal ∧ (clearPulseAtSlot8 0b10#8).rstIn.headD false = false ∧
    (clearPulseAtSlot8 0b10#8).onSequence = true ∧ (∃ t, step (clearPulseAtSlot8 0b10#8) = .next t) ∧
    (0x11#8 : Addr) ≠ (clearPulseAtSlot8 0b10#8).abus ∧ (slotAt 9).params.env = .ideal ∧
    (slotAt 9).onSequence = true ∧ ∃ t, step (slotAt 9) = .next t :=
  ⟨rfl, rfl, rfl, ⟨_, rfl⟩, by decide, rfl, rfl, _, rfl⟩

theorem test_meets_SlotAdvancesByOne :
    (slotAt 0).rstIn.headD false = false ∧ (slotAt 0).onSequence = true ∧ (slotAt 0).inPulse = true ∧
    (slotAt 0).upc.toNat ≤ 16 ∧ (slotAt 16).onSequence = true ∧ (slotAt 16).upc.toNat ≤ 16 := by decide

theorem test_meets_busy_statements :
    writeAtSlot9.rstIn.headD false = false ∧ writeAtSlot9.onSequence = true ∧ writeAtSlot9.busy = true ∧
    ∃ t, step writeAtSlot9 = .next t := ⟨rfl, rfl, rfl, ⟨_, rfl⟩⟩

theorem writeAtSlot9_inv : writeAtSlot9.SequenceInv := by
  unfold State.SequenceInv State.BridgesInWindow State.BusHoldsAddress State.LatchArmed
  refine ⟨by decide, by decide, ?_, by decide, by decide⟩
  exact ⟨rfl, rfl, rfl⟩

theorem longestAtSlot10_inv : longestAtSlot10.SequenceInv := by
  unfold State.SequenceInv State.BridgesInWindow State.BusHoldsAddress State.LatchArmed
  exact ⟨by decide, by decide, trivial, by decide, by decide⟩

theorem inSample_inv : ({ inSample with dir := false } : State).SequenceInv := by
  unfold State.SequenceInv State.BridgesInWindow State.BusHoldsAddress State.LatchArmed
  exact ⟨by decide, by decide, trivial, by decide, by decide⟩

theorem offered_inv (w : Word) : (offered w).SequenceInv := by
  unfold State.SequenceInv State.BridgesInWindow State.BusHoldsAddress State.LatchArmed
  exact ⟨rfl, ⟨rfl, rfl, rfl, rfl⟩, trivial, fun h => by simp [State.upcWithin, State.inPulse, offered, State.reset] at h,
    fun h => by simp [State.upcWithin, State.inPulse, offered, State.reset] at h⟩

theorem test_meets_StepKeepsSequence : writeAtSlot9.SequenceInv ∧ ∃ t, step writeAtSlot9 = .next t :=
  ⟨writeAtSlot9_inv, _, rfl⟩

theorem test_meets_StepKeepsLinesQuiet :
    longestAtSlot10.dbgl = false ∧ longestAtSlot10.qcnt = 0 ∧ longestAtSlot10.cells.wf = true ∧
    ∃ t, step longestAtSlot10 = .next t := ⟨rfl, rfl, by decide, _, rfl⟩

/-- The three places where no bridge conducts: outside a pulse, at UPC 0, at UPC 17. -/
theorem test_meets_NoBridgeConductsBetweenPulses :
    ({ inSample with dir := false } : State).SequenceInv ∧ ({ inSample with dir := false } : State).inPulse = false ∧
    (offered 0x0500#16).SequenceInv ∧ (offered 0x0500#16).upc = 0#5 := ⟨inSample_inv, rfl, offered_inv _, rfl⟩

theorem test_meets_NoBridgeConducts_at_end :
    ({ slotAt 17 with lrst := true } : State).SequenceInv ∧ ({ slotAt 17 with lrst := true } : State).upc = 17#5 := by
  refine ⟨?_, rfl⟩
  unfold State.SequenceInv State.BridgesInWindow State.BusHoldsAddress State.LatchArmed
  exact ⟨by decide, by decide, trivial, by decide, by decide⟩

theorem test_meets_ConductionWindowsNest :
    longestAtSlot10.SequenceInv ∧ conducts longestAtSlot10.ybr = true ∧ conducts longestAtSlot10.inh0 = true ∧
    conducts longestAtSlot10.inh1 = true := ⟨longestAtSlot10_inv, rfl, rfl, rfl⟩

theorem test_meets_quantum_of_100 : (offered 0x1210#16).params.quantumNs = 100 := by decide

theorem offered_noReset (w : Word) (k : Nat) : (offered w).noReset k := by
  intro b h
  simp [offered, State.reset] at h

theorem test_meets_PulseCommandRunsToEnd :
    (offered 0x0B21#16).params.env = .ideal ∧ (offered 0x0B21#16).SequenceInv ∧ (offered 0x0B21#16).phase = .idle ∧
    (offered 0x0B21#16).upc = 0#5 ∧ (offered 0x0B21#16).noReset 19 ∧
    (offered 0x0B21#16).cmdIn = [0x0B21#16, 0x3000#16] ∧ decodeCmd 0x0B21#16 = .pulse 0x21#8 false 0b11#2 true :=
  ⟨rfl, offered_inv _, rfl, rfl, offered_noReset _ _, rfl, by decide⟩

theorem test_meets_WriteCommandRunsToEnd :
    (offered 0x1210#16).params.env = .ideal ∧ (offered 0x1210#16).SequenceInv ∧ (offered 0x1210#16).phase = .idle ∧
    (offered 0x1210#16).upc = 0#5 ∧ (offered 0x1210#16).noReset 37 ∧
    (offered 0x1210#16).cmdIn = [0x1210#16, 0x3000#16] ∧ decodeCmd 0x1210#16 = .write 0x10#8 0b10#2 :=
  ⟨rfl, offered_inv _, rfl, rfl, offered_noReset _ _, rfl, by decide⟩

theorem test_meets_ReadCommandRunsToEnd :
    (offered 0x20FF#16).params.env = .ideal ∧ (offered 0x20FF#16).SequenceInv ∧ (offered 0x20FF#16).phase = .idle ∧
    (offered 0x20FF#16).upc = 0#5 ∧ (offered 0x20FF#16).noReset 38 ∧
    (offered 0x20FF#16).cmdIn = [0x20FF#16, 0x3000#16] ∧ decodeCmd 0x20FF#16 = .read 0xFF#8 ∧
    ({ offered 0x20FF#16 with params := { Params.default with env := .any } } : State).params.env = .any :=
  ⟨rfl, offered_inv _, rfl, rfl, offered_noReset _ _, rfl, by decide, rfl⟩

/-- `write(0x10, 0b10)`, then `read(0x10)` twice: program P1 of 95_test_vectors. -/
theorem test_meets_IdealRestoreIdempotence :
    decodeCmd 0x1210#16 = .write 0x10#8 0b10#2 ∧ decodeCmd 0x2010#16 = .read 0x10#8 ∧
    ({ offered 0x1210#16 with cmdIn := [0x1210#16, 0x2010#16, 0x2010#16] } : State).params.env = .ideal ∧
    ({ offered 0x1210#16 with cmdIn := [0x1210#16, 0x2010#16, 0x2010#16] } : State).SequenceInv ∧
    ({ offered 0x1210#16 with cmdIn := [0x1210#16, 0x2010#16, 0x2010#16] } : State).phase = .idle ∧
    ({ offered 0x1210#16 with cmdIn := [0x1210#16, 0x2010#16, 0x2010#16] } : State).noReset 113 :=
  ⟨by decide, by decide, rfl, offered_inv 0x1210#16, rfl, offered_noReset 0x1210#16 113⟩

/-- Two states with one block and different core planes, latches and environments. -/
theorem test_meets_EnvironmentSeenOnlyBySample :
    SameBlock writeAtSlot9
      { writeAtSlot9 with params := { Params.default with env := .any }, cells := [], latch := 0b11#2, senseIn := [0b01#2] } ∧
    writeAtSlot9.phase ≠ .sample ∧ ∃ t, step writeAtSlot9 = .next t :=
  ⟨⟨rfl, rfl, rfl, rfl, rfl, rfl, rfl, rfl, rfl, rfl, rfl, rfl, rfl, rfl, rfl, rfl, rfl, rfl, rfl, rfl, rfl, rfl, rfl, rfl, rfl⟩,
    by decide, _, rfl⟩

end Sys2Proof.Tests
end

/-! # What a slot does to the output registers, and the sequence invariant (R28, R44, R167, R171, R182) -/

namespace Sys2Proof.Machine

/-! ## What a slot does to the output registers -/

/-- The output registers after slot `n`, each with the slots that write it (R151 to R161). -/
structure SlotLines (s t : State) (n : Nat) : Prop where
  xbr : t.xbr = if n = 3 then xDrive s.addr s.dir else if n = 14 then noConduction s.params else s.xbr
  ybr : t.ybr = if n = 8 then yDrive s.dir else if n = 10 then noConduction s.params else s.ybr
  inh0 : t.inh0 = if n = 5 ∧ s.mask.getLsbD 0 = false then inhDrive s.addr s.dir
    else if n = 12 then noConduction s.params else s.inh0
  inh1 : t.inh1 = if n = 6 ∧ s.mask.getLsbD 1 = false then inhDrive s.addr s.dir
    else if n = 13 then noConduction s.params else s.inh1
  abus : t.abus = if n = 0 then s.addr else s.abus
  lrst : t.lrst = if n = 4 then true else if n = 2 ∧ s.rl = true then false else s.lrst

theorem exec_slotLines {i : Instr} {u : Upc} {s t : State} (h : encode i = .slot u) (he : exec i s = .next t) :
    SlotLines s t u.toNat := by
  cases i <;> simp only [encode, reduceCtorEq, Code.slot.injEq] at h <;> subst h
  case s2Lrf =>
    cases he
    cases hr : s.rl
    · rw [slotIf_false]
      constructor <;> simp [hr]
    · rw [slotIf_true, slot_eq, emit_lr_false_frame]
      constructor <;> simp [hr]
  case s5Bri0 =>
    cases he
    cases hm : s.mask.getLsbD 0 <;> constructor <;>
      simp [slotIf_true, slotIf_false, slot_eq, emit_br_inh0, -BitVec.getLsbD_eq_getElem, hm]
  case s6Bri1 =>
    cases he
    cases hm : s.mask.getLsbD 1 <;> constructor <;>
      simp [slotIf_true, slotIf_false, slot_eq, emit_br_inh1, -BitVec.getLsbD_eq_getElem, hm]
  case s8Bry =>
    cases (execS8Bry_eq s).symm.trans he
    rw [fullSelect_frame]
    constructor <;> rfl
  case s10BryOff =>
    cases he
    rw [slot_eq, emit_br_y_inert _ (conducts_noConduction _)]
    constructor <;> rfl
  all_goals
    cases he
    constructor <;> rfl

/-! ## A bridge's window -/

/-- A bridge inside its window is in its driven state, outside it does not conduct (R44). -/
def InWindow (on : Bool) (drive r : BridgeState) : Prop := if on then r = drive else conducts r = false

theorem bridgesInWindow_iff (s : State) :
    s.BridgesInWindow ↔
      InWindow (s.upcWithin 4 14) (xDrive s.addr s.dir) s.xbr ∧ InWindow (s.upcWithin 9 10) (yDrive s.dir) s.ybr ∧
      InWindow (s.upcWithin 6 12 && !s.mask.getLsbD 0) (inhDrive s.addr s.dir) s.inh0 ∧
      InWindow (s.upcWithin 7 13 && !s.mask.getLsbD 1) (inhDrive s.addr s.dir) s.inh1 := Iff.rfl

@[simp] theorem inWindow_false (drive r : BridgeState) : InWindow false drive r ↔ conducts r = false := by
  simp [InWindow]

theorem upcWithin_of_inPulse {s : State} (h : s.inPulse = true) (lo hi : Nat) :
    s.upcWithin lo hi = (decide (lo ≤ s.upc.toNat) && decide (s.upc.toNat ≤ hi)) := by
  simp [State.upcWithin, h]

/-- A bridge driven by the slot before its window, when the pulse drives it at all, and released by the last slot of it stays
in its window as UPC moves on. -/
theorem inWindow_succ {n lo hi : Nat} {driven : Bool} {drive nc r r' : BridgeState} (hlh : lo ≤ hi)
    (hnc : conducts nc = false) (h : InWindow (decide (lo ≤ n) && decide (n ≤ hi) && driven) drive r)
    (hr : r' = if n + 1 = lo ∧ driven = true then drive else if n = hi then nc else r) :
    InWindow (decide (lo ≤ n + 1) && decide (n + 1 ≤ hi) && driven) drive r' := by
  subst hr
  cases driven
  case false =>
    simp only [Bool.and_false, inWindow_false, Bool.false_eq_true, and_false, if_false] at h ⊢
    split_ifs
    exacts [hnc, h]
  case true =>
    simp only [InWindow, Bool.and_true, Bool.and_eq_true, decide_eq_true_eq, and_true] at h ⊢
    by_cases hlo : n + 1 = lo
    · rw [if_pos (by omega), if_pos hlo]
    · by_cases hhi : n = hi
      · rw [if_neg (by omega), if_neg hlo, if_pos hhi, hnc]
      · have hsame : (lo ≤ n + 1 ∧ n + 1 ≤ hi) ↔ (lo ≤ n ∧ n ≤ hi) := by omega
        rw [if_neg hlo, if_neg hhi]
        simpa only [hsame] using h

/-! ## Between pulses -/

/-- None of the four bridges conducts (R166). -/
def State.BridgesInert (s : State) : Prop :=
  conducts s.xbr = false ∧ conducts s.ybr = false ∧ conducts s.inh0 = false ∧ conducts s.inh1 = false

/-- Outside a pulse, or at the start or the end of one. -/
def State.BetweenPulses (s : State) : Prop := s.inPulse = false ∨ s.upc = 0#5 ∨ s.upc = 17#5

theorem upcWithin_betweenPulses {s : State} (h : s.BetweenPulses) {lo hi : Nat} (hlo : 0 < lo) (hhi : hi < 17) :
    s.upcWithin lo hi = false := by
  rcases h with h | h | h
  · simp [State.upcWithin, h]
  · simp only [State.upcWithin, h, BitVec.toNat_ofNat, Nat.zero_mod]
    simp [Nat.not_le.2 hlo]
  · have h17 : ¬ 17 ≤ hi := by omega
    simp [State.upcWithin, h, h17]

/-- Between pulses every window is closed. -/
theorem bridgesInWindow_iff_inert {s : State} (h : s.BetweenPulses) : s.BridgesInWindow ↔ s.BridgesInert := by
  simp [bridgesInWindow_iff, upcWithin_betweenPulses h, State.BridgesInert]

/-- With UPC 0 the invariant asks nothing but inert bridges, the operands, and in the later phases of an operation the address
on the bus and the latch-reset line asserted. -/
theorem sequenceInv_of_upc_zero {s : State} (hu : s.upc = 0#5) (hs : s.onSequence = true) (hb : s.BridgesInert)
    (ho : s.OperandsHandedOver) (hl : s.phase = .sample ∨ s.phase = .p2 → s.abus = s.addr ∧ s.lrst = true) :
    s.SequenceInv := by
  have hw (lo : Nat) : s.upcWithin (lo + 1) 17 = false := by simp [State.upcWithin, hu]
  refine ⟨hs, (bridgesInWindow_iff_inert (.inr (.inl hu))).2 hb, ho, fun h => ?_, fun h => ?_⟩
  · exact (hl (h.resolve_left (by simp [hw]))).1
  · exact (hl (h.resolve_left (by simp [hw]))).2

/-- An idle block with UPC 0 and inert bridges meets the invariant. -/
theorem sequenceInv_of_idle {s : State} (hp : s.phase = .idle) (hu : s.upc = 0#5) (hb : s.BridgesInert) :
    s.SequenceInv :=
  sequenceInv_of_upc_zero hu (by simp [State.onSequence, hp, hu]) hb (by simp [State.OperandsHandedOver, hp])
    (by simp [hp])

theorem inPulse_iff (s : State) : s.inPulse = true ↔ s.phase = .p1 ∨ s.phase = .p2 := by
  simp [State.inPulse]

/-! ## Each kind of step keeps the invariant -/

theorem resetBlock_sequenceInv (s : State) : s.resetBlock.SequenceInv :=
  sequenceInv_of_idle rfl rfl ⟨rfl, rfl, rfl, rfl⟩

/-- The inputs moved on are no part of the invariant. -/
theorem clockIn_sequenceInv {s : State} (h : s.SequenceInv) : s.clockIn.SequenceInv := h

/-- The end of a pulse leaves the lines; what follows starts with the bridges inert, the address on the bus and the latch
armed (R29, R182, R187). -/
theorem endPulse_sequenceInv {s : State} (h : s.SequenceInv) (hp : s.inPulse = true) (hu : s.upc = 17#5) :
    s.endPulse.SequenceInv := by
  obtain ⟨hs, hw, -, hbus, hlatch⟩ := h
  have hb : s.BridgesInert := (bridgesInWindow_iff_inert (.inr (.inr hu))).1 hw
  have hl : s.abus = s.addr ∧ s.lrst = true :=
    ⟨hbus (.inl (by simp [State.upcWithin, hp, hu])), hlatch (.inl (by simp [State.upcWithin, hp, hu]))⟩
  unfold State.endPulse
  split
  case h_1 | h_4 | h_5 | h_6 => exact sequenceInv_of_idle rfl rfl hb
  case h_2 hph hop =>
    exact sequenceInv_of_upc_zero rfl (by simp [State.onSequence, hop]) hb
      (by simp [State.OperandsHandedOver, setOperandsOf]) fun _ => hl
  case h_3 hph hop =>
    exact sequenceInv_of_upc_zero rfl (by simp [State.onSequence, hop]) hb trivial fun _ => hl
  case h_7 hph | h_8 hph => simp [State.inPulse, hph] at hp

/-- An accepted command starts its first pulse with the handed-over operands (R180, R182). -/
theorem decodeCmd_exec_sequenceInv {w : Word} {s t : State} (h : s.SequenceInv) (hp : s.phase = .idle)
    (he : exec (decodeCmd w) s = .next t) : t.SequenceInv := by
  obtain ⟨-, hw, -⟩ := h
  have hb : s.BridgesInert := (bridgesInWindow_iff_inert (.inl (by simp [State.inPulse, hp]))).1 hw
  obtain ⟨op, a, o, v, rfl, -, ho⟩ := decodeCmd_exec hp he
  refine sequenceInv_of_upc_zero rfl rfl hb ?_ (by simp)
  rcases ho with rfl | ⟨rfl, rfl⟩ | ⟨rfl, rfl⟩
  exacts [trivial, ⟨rfl, rfl, rfl⟩, ⟨rfl, rfl, rfl⟩]

/-- The sample starts the restore pulse, with the sampled pair for its mask (R182, R187). -/
theorem execSs_sequenceInv {s t : State} (h : s.SequenceInv) (hp : s.phase = .sample) (he : exec .ss s = .next t) :
    t.SequenceInv := by
  obtain ⟨hs, hw, -, hbus, hlatch⟩ := h
  have hb : s.BridgesInert := (bridgesInWindow_iff_inert (.inl (by simp [State.inPulse, hp]))).1 hw
  have hop : s.op = .read := by
    simp only [State.onSequence, hp, Bool.and_eq_true, beq_iff_eq] at hs
    exact hs.1
  cases (execSs_eq s).symm.trans he
  exact sequenceInv_of_upc_zero rfl (by simp [State.onSequence, hop]) hb ⟨rfl, rfl, rfl⟩
    fun _ => ⟨hbus (.inr (.inl hp)), hlatch (.inr (.inl hp))⟩

/-- A slot moves UPC on by one and keeps everything an event of its kind keeps. -/
theorem slot_frame {i : Instr} {u : Upc} {s t : State} (h : encode i = .slot u) (he : exec i s = .next t) :
    ∃ e, EventFrame s t e ∧ e ≠ .ss ∧ e ≠ .dbg ∧ u.toNat ≤ 16 ∧ t.upc.toNat = u.toNat + 1 := by
  obtain ⟨c, e, rfl, hu, hss, hdbg, -⟩ := slot_exec h he
  obtain ⟨hf, hupc⟩ := slotIf_frame s u.toNat c e
  refine ⟨e, hf, hss, hdbg, hu, ?_⟩
  rw [hupc, BitVec.toNat_ofNat]
  omega

/-- A slot opens or closes the windows that begin or end at it. -/
theorem slot_bridgesInWindow {i : Instr} {s t : State} (h : s.BridgesInWindow) (hp : s.inPulse = true)
    (hi : encode i = .slot s.upc) (he : exec i s = .next t) : t.BridgesInWindow := by
  obtain ⟨e, hf, -, -, -, hupc⟩ := slot_frame hi he
  have hl := exec_slotLines hi he
  have hpt : t.inPulse = true := by rw [State.inPulse, hf.phase]; exact hp
  have hnc := conducts_noConduction s.params
  simp only [bridgesInWindow_iff, upcWithin_of_inPulse hp, upcWithin_of_inPulse hpt, hf.addr, hf.dir, hf.mask, hupc]
    at h ⊢
  obtain ⟨hx, hy, h0, h1⟩ := h
  refine ⟨?_, ?_, inWindow_succ (by decide) hnc h0 (by simpa using hl.inh0),
    inWindow_succ (by decide) hnc h1 (by simpa using hl.inh1)⟩
  · rw [← Bool.and_true (_ && _)] at hx ⊢
    exact inWindow_succ (by decide) hnc hx (by simpa using hl.xbr)
  · rw [← Bool.and_true (_ && _)] at hy ⊢
    exact inWindow_succ (by decide) hnc hy (by simpa using hl.ybr)

/-- Slot 0 puts the address on the bus, and no slot takes it off (R40). -/
theorem slot_busHoldsAddress {i : Instr} {s t : State} (h : s.BusHoldsAddress) (hp : s.inPulse = true)
    (hi : encode i = .slot s.upc) (he : exec i s = .next t) : t.BusHoldsAddress := by
  obtain ⟨e, hf, -, -, hu, -⟩ := slot_frame hi he
  intro _
  rw [(exec_slotLines hi he).abus, hf.addr]
  split_ifs with h0
  · rfl
  · have h1 : 1 ≤ s.upc.toNat := by omega
    have h17 : s.upc.toNat ≤ 17 := by omega
    exact h (.inl (by simp [State.upcWithin, hp, h1, h17]))

/-- Slot 4 asserts the latch-reset line; slot 2 deasserts it only when RL is true, which it is in no second pulse (R153, R155,
R182). -/
theorem slot_latchArmed {i : Instr} {s t : State} (h : s.LatchArmed) (ho : s.OperandsHandedOver) (hp : s.inPulse = true)
    (hi : encode i = .slot s.upc) (he : exec i s = .next t) : t.LatchArmed := by
  obtain ⟨e, hf, -, -, hu, hupc⟩ := slot_frame hi he
  have hpt : t.inPulse = true := by rw [State.inPulse, hf.phase]; exact hp
  intro hat
  simp only [upcWithin_of_inPulse hpt, hf.phase, hupc, Bool.and_eq_true, decide_eq_true_eq] at hat
  rw [(exec_slotLines hi he).lrst]
  rcases (inPulse_iff s).1 hp with hph | hph
  case inl =>
    have h4 : 4 ≤ s.upc.toNat := by
      have := hat.resolve_right (by simp [hph])
      omega
    split_ifs with hn4 hn2
    · rfl
    · omega
    · have h5 : 5 ≤ s.upc.toNat := by omega
      have h17 : s.upc.toNat ≤ 17 := by omega
      exact h (.inl (by simp [State.upcWithin, hp, h5, h17]))
  case inr =>
    have hrl : s.rl = false := by
      simp only [State.OperandsHandedOver, hph] at ho
      exact ho.2.2
    simp [hrl, h (.inr (.inr hph))]

/-- The operands stay through the pulse. -/
theorem slot_operandsHandedOver {i : Instr} {s t : State} {u : Upc} (h : s.OperandsHandedOver)
    (hi : encode i = .slot u) (he : exec i s = .next t) : t.OperandsHandedOver := by
  obtain ⟨e, hf, hss, -⟩ := slot_frame hi he
  simpa only [State.OperandsHandedOver, hf.phase, hf.op, hf.dir, hf.mask, hf.rl, hf.value hss] using h

/-- After a slot UPC is at most 17. -/
theorem slot_onSequence {i : Instr} {s t : State} (h : s.onSequence = true) (hp : s.inPulse = true)
    (hi : encode i = .slot s.upc) (he : exec i s = .next t) : t.onSequence = true := by
  obtain ⟨e, hf, -, -, hu, hupc⟩ := slot_frame hi he
  have h17 : s.upc.toNat + 1 ≤ 17 := by omega
  rcases (inPulse_iff s).1 hp with hph | hph
  · simp [State.onSequence, hf.phase, hph, hupc, h17]
  · simp only [State.onSequence, hph, Bool.and_eq_true] at h
    simp [State.onSequence, hf.phase, hf.op, hph, hupc, h17, h.1]

theorem slot_sequenceInv {i : Instr} {s t : State} (h : s.SequenceInv) (hp : s.inPulse = true)
    (hi : encode i = .slot s.upc) (he : exec i s = .next t) : t.SequenceInv := by
  obtain ⟨hs, hw, ho, hbus, hlatch⟩ := h
  exact ⟨slot_onSequence hs hp hi he, slot_bridgesInWindow hw hp hi he, slot_operandsHandedOver ho hi he,
    slot_busHoldsAddress hbus hp hi he, slot_latchArmed hlatch ho hp hi he⟩

/-- Settles O44: each kind of step keeps the invariant. -/
theorem stepKeepsSequence : Obligations.StepKeepsSequence := by
  intro s t h hstep
  have hc := clockIn_sequenceInv h
  rcases step_inversion hstep with
    ⟨-, rfl⟩ | ⟨-, -, ⟨-, rfl⟩ | ⟨hp, hu, rfl⟩ | ⟨hp, w, ws, -, he⟩ | ⟨hp, i, hi, he⟩ | ⟨hp, he⟩⟩
  · exact resetBlock_sequenceInv _
  · exact hc
  · exact endPulse_sequenceInv hc ((inPulse_iff s).2 hp) hu
  · exact decodeCmd_exec_sequenceInv (s := { s with rstIn := s.rstIn.tail, done := false, cmdIn := ws }) h hp he
  · exact slot_sequenceInv hc ((inPulse_iff s).2 hp) hi he
  · exact execSs_sequenceInv hc hp he

/-- Settles O47: between pulses the windows are closed. -/
theorem noBridgeConductsBetweenPulses : Obligations.NoBridgeConductsBetweenPulses := by
  intro s h hb
  obtain ⟨-, hw, -⟩ := h
  exact (bridgesInWindow_iff_inert hb).1 hw

end Sys2Proof.Machine

/-! # Slot numbers, resets, single steps, and what a step leaves unchanged -/

namespace Sys2Proof.Machine

/-! ## Slot and phase numbers (R28, R29, R100) -/

/-- The slots are numbered 0 to 16. -/
theorem decodeSlot_isOk_iff : ∀ n : Upc, (decodeSlot n).isOk = true ↔ n.toNat ≤ 16 := by decide

theorem exists_decodeSlot {n : Upc} (h : n.toNat ≤ 16) : ∃ i, decodeSlot n = .ok i := by
  have hok := (decodeSlot_isOk_iff n).2 h
  cases hd : decodeSlot n with
  | ok i => exact ⟨i, rfl⟩
  | error e => simp [hd, Except.isOk, Except.toBool] at hok

theorem upc_le_of_decodeSlot {n : Upc} {i : Instr} (h : decodeSlot n = .ok i) : n.toNat ≤ 16 :=
  (decodeSlot_isOk_iff n).1 (by rw [h]; rfl)

/-- Settles O5: a number up to 16 decodes, to the slot whose code it is; the rest is a finite table. -/
theorem slotAndPhaseNumbers : Obligations.SlotAndPhaseNumbers := by
  refine ⟨fun n hn => ?_, by decide, by decide, fun p => ?_⟩
  · obtain ⟨i, hi⟩ := exists_decodeSlot hn
    exact ⟨i, hi, decodeSlot_ok hi⟩
  · cases p <;> rfl

/-! ## The steps that run no instruction, and the state after reset (R48, R191, R211, R220) -/

theorem step_reset {s : State} (hr : s.rstHigh = true) : step s = .next s.clockIn.resetBlock := by
  simp [step, hr]

theorem step_unreachable {s : State} (hr : s.rstHigh = false) (ho : s.onSequence = false) :
    step s = .next s.clockIn.resetBlock := by
  simp [step, hr, ho, State.recover]

theorem step_rest {s : State} (hr : s.rstHigh = false) (ho : s.onSequence = true) (hf : s.fetch = none) :
    step s = .next s.clockIn := by
  simp [step, hr, ho, hf]

theorem onSequence_of_idle {s : State} (hp : s.phase = .idle) (hu : s.upc = 0#5) : s.onSequence = true := by
  simp [State.onSequence, hp, hu]

/-- A reset drives every output line low, whatever level the latch-reset line's `true` is (R48). -/
theorem resetBlock_outputLines_low (s : State) : ∀ l ∈ s.resetBlock.outputLines, l = false := by
  have hl : s.resetBlock.latchResetLevel = false := by
    cases h : s.params.lrstTrueLevel <;> simp [State.latchResetLevel, State.resetBlock, h]
  rw [State.outputLines, hl]
  simp [State.resetBlock, enableLine, directionLine, BridgeState.bits]

/-- Settles O30: with `rst` high the step is `resetBlock`, whose lines and cells are known. -/
theorem resetWinsOverEverything : Obligations.ResetWinsOverEverything := by
  intro s hr
  refine ⟨_, step_reset hr, rfl, rfl, rfl, rfl, resetBlock_outputLines_low _, rfl, rfl, rfl, rfl, fun he => ⟨?_, ?_⟩⟩
  · exact fun a ha => resetBlock_memRead_other (s := s.clockIn) he ha
  · exact fun hp => resetBlock_cells_idle (s := s.clockIn) (by simp [State.busy, hp])

/-- Settles O31: from an unreachable place the step is `resetBlock` too. -/
theorem unreachablePlaceReturnsToIdle : Obligations.UnreachablePlaceReturnsToIdle := by
  intro s hr ho
  exact ⟨_, step_unreachable hr ho, rfl, rfl, resetBlock_outputLines_low _, rfl, rfl⟩

/-- Settles O28: an idle block with no word offered fetches nothing. -/
theorem idleBlockRests : Obligations.IdleBlockRests := by
  intro s hr hp hu hc
  exact step_rest hr (onSequence_of_idle hp hu) (by simp [State.fetch, hp, hc])

/-- Settles O29: at UPC 17 the step is the composer's `endPulse`, read off by phase and operation. -/
theorem pulseEndReturnsToComposer : Obligations.PulseEndReturnsToComposer := by
  rintro s u hr hu rfl
  have h1 (hp : s.phase = .p1) : step s = .next s.clockIn.endPulse :=
    step_endPulse hr (by simp [State.onSequence, hp, hu]) (.inl hp) hu
  have h2 (hp : s.phase = .p2) (ho : s.op ≠ .pulse) : step s = .next s.clockIn.endPulse :=
    step_endPulse hr (by simp [State.onSequence, hp, hu, ho]) (.inr hp) hu
  refine ⟨fun hp ho => (h1 hp).trans ?_, fun hp ho => (h1 hp).trans ?_, fun hp ho => (h1 hp).trans ?_,
    fun hp ho => (h2 hp (by simp [ho])).trans ?_, fun hp ho => (h2 hp (by simp [ho])).trans ?_⟩
  all_goals simp [State.endPulse, State.finish, State.startPulse, setOperandsOf, State.clockIn, hp, ho]

/-- Settles O42, by evaluation of the one state. -/
theorem resetLeavesLinesLow : Obligations.ResetLeavesLinesLow :=
  ⟨rfl, rfl, by decide, rfl, rfl, rfl, rfl, rfl, rfl, rfl, rfl, rfl, rfl⟩

/-- Settles O43: the state after reset is an idle block with inert bridges. -/
theorem resetIsSafe : Obligations.ResetIsSafe :=
  ⟨sequenceInv_of_idle rfl rfl ⟨rfl, rfl, rfl, rfl⟩, ⟨rfl, rfl⟩, rfl⟩

/-! ## The steps that run an instruction (R28, R180, R187) -/

/-- In a legal place with `rst` low, the decoded instruction runs. -/
theorem step_exec {s : State} {c : Code} {i : Instr} (hr : s.rstHigh = false) (ho : s.onSequence = true)
    (hf : s.fetch = some c) (hd : decode c = .ok i) : step s = exec i s.beforeExec := by
  simp [step, hr, ho, hf, hd]

theorem step_command {s : State} {w : Word} {ws : List Word} (hr : s.rstHigh = false) (hp : s.phase = .idle)
    (hu : s.upc = 0#5) (hc : s.cmdIn = w :: ws) :
    step s = exec (decodeCmd w) { s with rstIn := s.rstIn.tail, done := false, cmdIn := ws } := by
  rw [step_exec hr (onSequence_of_idle hp hu) (c := .cmd w) (by simp [State.fetch, hp, hc]) rfl, beforeExec_idle hp, hc,
    List.tail_cons]

theorem step_slot {s : State} {i : Instr} (hr : s.rstHigh = false) (ho : s.onSequence = true) (hp : s.inPulse = true)
    (hd : decodeSlot s.upc = .ok i) : step s = exec i s.clockIn := by
  rcases (inPulse_iff s).1 hp with hph | hph
  · rw [step_exec hr ho (c := .slot s.upc) (by simp [State.fetch, hph]) hd, beforeExec_busy (by simp [hph])]
  · rw [step_exec hr ho (c := .slot s.upc) (by simp [State.fetch, hph]) hd, beforeExec_busy (by simp [hph])]

theorem step_sample {s : State} (hr : s.rstHigh = false) (hp : s.phase = .sample) (hop : s.op = .read)
    (hu : s.upc = 0#5) : step s = exec .ss s.clockIn := by
  rw [step_exec hr (by simp [State.onSequence, hp, hop, hu]) (c := .phase s.phase.code) (by simp [State.fetch, hp])
    (by rw [hp]; rfl), beforeExec_busy (by simp [hp])]

/-- Every slot has a next state. -/
theorem exec_slot_next {i : Instr} {u : Upc} (h : encode i = .slot u) (s : State) : ∃ t, exec i s = .next t := by
  cases i <;> simp only [encode, reduceCtorEq] at h <;> exact ⟨_, rfl⟩

/-- Settles O27: one step equation per format of code. -/
theorem stepRunsDecodedInstruction : Obligations.StepRunsDecodedInstruction := by
  refine fun s hr => ⟨fun w ws hp hu hc => step_command hr hp hu hc, fun i hp hd => ?_, fun hp hop hu =>
    step_sample hr hp hop hu⟩
  have hu : s.upc.toNat ≤ 17 := Nat.le_succ_of_le (upc_le_of_decodeSlot hd)
  rcases hp with hp | ⟨hp, hop⟩
  · exact step_slot hr (by simp [State.onSequence, hp, hu]) (by simp [State.inPulse, hp]) hd
  · exact step_slot hr (by simp [State.onSequence, hp, hop, hu]) (by simp [State.inPulse, hp]) hd

/-- Settles O35: the slot at UPC exists, has a next state, and keeps what an event keeps. -/
theorem slotAdvancesByOne : Obligations.SlotAdvancesByOne := by
  intro s hr ho hp hu
  obtain ⟨i, hd⟩ := exists_decodeSlot hu
  have hi := decodeSlot_ok hd
  obtain ⟨t, ht⟩ := exec_slot_next hi s.clockIn
  obtain ⟨e, hf, hss, -, -, hupc⟩ := slot_frame hi ht
  exact ⟨t, (step_slot hr ho hp hd).trans ht, hupc, hf.phase, hf.op, hf.addr, hf.dir, hf.mask, hf.rl, hf.value hss,
    hf.rdata, hf.cmdIn⟩

/-! ## What a step leaves unchanged -/

/-- In a legal place with `rst` low, a step is rest, the end of a pulse, an accepted command, a slot, or the sample. -/
theorem step_inversion_running {s t : State} (hr : s.rstHigh = false) (ho : s.onSequence = true) (h : step s = .next t) :
    s.phase = .idle ∧ t = s.clockIn ∨
    (s.phase = .p1 ∨ s.phase = .p2) ∧ s.upc = 17#5 ∧ t = s.clockIn.endPulse ∨
    (s.phase = .idle ∧ ∃ w ws, s.cmdIn = w :: ws ∧
      exec (decodeCmd w) { s with rstIn := s.rstIn.tail, done := false, cmdIn := ws } = .next t) ∨
    ((s.phase = .p1 ∨ s.phase = .p2) ∧ ∃ i, encode i = .slot s.upc ∧ exec i s.clockIn = .next t) ∨
    s.phase = .sample ∧ exec .ss s.clockIn = .next t := by
  rcases step_inversion h with ⟨hbad, -⟩ | ⟨-, -, hcases⟩
  · simp [hr, ho] at hbad
  · exact hcases

/-- Settles O33: only a slot and the sample touch the trace. -/
theorem stepEmitsAtMostOneEvent : Obligations.StepEmitsAtMostOneEvent := by
  intro s t hstep
  rcases step_inversion hstep with
    ⟨-, rfl⟩ | ⟨-, -, ⟨-, rfl⟩ | ⟨-, -, rfl⟩ | ⟨hp, w, ws, -, he⟩ | ⟨-, i, hi, he⟩ | ⟨-, he⟩⟩
  · exact .inl rfl
  · exact .inl rfl
  · obtain ⟨d, m, r, rd, ph, dn, u, heq, -⟩ := endPulse_frame s.clockIn
    rw [heq]
    exact .inl rfl
  · obtain ⟨op, a, o, v, rfl, -⟩ := decodeCmd_exec (by exact hp) he
    exact .inl rfl
  · obtain ⟨e, hf, -, hdbg, -⟩ := slot_frame hi he
    exact hf.trace.imp_right fun htr => ⟨e, hdbg, htr⟩
  · cases (execSs_eq s.clockIn).symm.trans he
    exact .inr ⟨.ss, by simp, rfl⟩

/-- Settles O36: OP and ADDR are written by an accepted command alone, which needs an idle block. -/
theorem addressStableWhileBusy : Obligations.AddressStableWhileBusy := by
  intro s t hr ho hb hstep
  have hidle : s.phase ≠ .idle := by simpa [State.busy] using hb
  rcases step_inversion_running hr ho hstep with
    ⟨hp, -⟩ | ⟨-, -, rfl⟩ | ⟨hp, -⟩ | ⟨-, i, hi, he⟩ | ⟨-, he⟩
  · exact absurd hp hidle
  · obtain ⟨d, m, r, rd, ph, dn, u, heq, -⟩ := endPulse_frame s.clockIn
    rw [heq]
    exact ⟨rfl, rfl, rfl⟩
  · exact absurd hp hidle
  · obtain ⟨e, hf, -⟩ := slot_frame hi he
    exact ⟨hf.op, hf.addr, hf.cmdIn⟩
  · cases (execSs_eq s.clockIn).symm.trans he
    exact ⟨rfl, rfl, rfl⟩

/-- Settles O37: of the steps only the end of a pulse can write RDATA. -/
theorem resultWrittenOnlyAtReadEnd : Obligations.ResultWrittenOnlyAtReadEnd := by
  intro s t hr ho hstep
  rcases step_inversion_running hr ho hstep with
    ⟨-, rfl⟩ | ⟨-, hu, rfl⟩ | ⟨hp, w, ws, -, he⟩ | ⟨-, i, hi, he⟩ | ⟨-, he⟩
  · exact .inl rfl
  · obtain ⟨d, m, r, rd, ph, dn, u, heq, hrd⟩ := endPulse_frame s.clockIn
    rw [heq]
    exact hrd.imp_right fun ⟨hp, hop, hv, hph, hdn⟩ => ⟨hp, hop, hu, hv, hph, hdn⟩
  · obtain ⟨op, a, o, v, rfl, -⟩ := decodeCmd_exec (by exact hp) he
    exact .inl rfl
  · obtain ⟨e, hf, -⟩ := slot_frame hi he
    exact .inl hf.rdata
  · cases (execSs_eq s.clockIn).symm.trans he
    exact .inl rfl

/-- Settles O38: a slot's event is never SS, and the end of a pulse leaves VALUE. -/
theorem valueWrittenOnlyByWriteAndSample : Obligations.ValueWrittenOnlyByWriteAndSample := by
  intro s t hr ho hstep
  rcases step_inversion_running hr ho hstep with
    ⟨-, rfl⟩ | ⟨-, -, rfl⟩ | ⟨hp, w, ws, hc, he⟩ | ⟨-, i, hi, he⟩ | ⟨hp, -⟩
  · exact .inl rfl
  · obtain ⟨d, m, r, rd, ph, dn, u, heq, -⟩ := endPulse_frame s.clockIn
    rw [heq]
    exact .inl rfl
  · obtain ⟨op, a, o, v, rfl, hv, -⟩ := decodeCmd_exec (by exact hp) he
    exact hv.imp_right fun hw => .inr ⟨hp, a, v, ws, w, hc, hw, rfl⟩
  · obtain ⟨e, hf, hss, -⟩ := slot_frame hi he
    exact .inl (hf.value hss)
  · exact .inr (.inl hp)

/-! ## The debug line and the quantum counter (R42, R120, R125) -/

/-- Every event leaves the debug line low and no wait under way: `DBG` strobes the line back, a wait counts to its end. -/
theorem emit_linesQuiet {s : State} (h : s.LinesQuiet) (e : Event) : (s.emit e).LinesQuiet := by
  cases e with
  | ab b => exact h
  | w n => exact ⟨h.1, rfl⟩
  | ss => exact h
  | dbg => exact ⟨rfl, h.2⟩
  | lr v =>
    cases v
    · rw [emit_lr_false_frame]
      exact h
    · exact h
  | br k v =>
    cases k with
    | x => exact h
    | inh0 => exact h
    | inh1 => exact h
    | y =>
      cases hv : conducts v
      · rw [emit_br_y_inert s hv]
        exact h
      · rw [emit_br_y_conducting s hv, fullSelect_frame]
        exact h

theorem slotIf_linesQuiet {s : State} (h : s.LinesQuiet) (n : Nat) (c : Bool) (e : Event) :
    (s.slotIf n c e).LinesQuiet := by
  cases c
  · exact h
  · exact emit_linesQuiet h e

/-- Settles O45: a reset drives both low, an event leaves them so, and the composer does not touch them. -/
theorem stepKeepsLinesQuiet : Obligations.StepKeepsLinesQuiet := by
  intro s t h hstep
  rcases step_inversion hstep with
    ⟨-, rfl⟩ | ⟨-, -, ⟨-, rfl⟩ | ⟨-, -, rfl⟩ | ⟨hp, w, ws, -, he⟩ | ⟨-, i, hi, he⟩ | ⟨-, he⟩⟩
  · exact ⟨rfl, rfl⟩
  · exact h
  · obtain ⟨d, m, r, rd, ph, dn, u, heq, -⟩ := endPulse_frame s.clockIn
    rw [heq]
    exact h
  · obtain ⟨op, a, o, v, rfl, -⟩ := decodeCmd_exec (by exact hp) he
    exact h
  · obtain ⟨c, e, rfl, -⟩ := slot_exec hi he
    exact slotIf_linesQuiet (s := s.clockIn) h _ c e
  · cases (execSs_eq s.clockIn).symm.trans he
    exact h

end Sys2Proof.Machine

/-! # The block in another environment (R80, R172) -/

namespace Sys2Proof.Machine

/-- What of a state is the environment's: ENV, the core plane, the sense latch and the sense inputs. -/
structure Environment where
  env : Env
  cells : Memory
  latch : Plane2
  latchFixed : Bool
  senseIn : List Plane2

/-- The environment a state holds. -/
def State.environment (s : State) : Environment :=
  { env := s.params.env, cells := s.cells, latch := s.latch, latchFixed := s.latchFixed, senseIn := s.senseIn }

/-- The same block in the environment `v`. -/
def State.inEnvironment (s : State) (v : Environment) : State :=
  { s with
    params := { s.params with env := v.env }
    cells := v.cells
    latch := v.latch
    latchFixed := v.latchFixed
    senseIn := v.senseIn }

/-- Two states have the same block when the one is the other in its own environment. -/
theorem sameBlock_iff (s t : State) : SameBlock s t ↔ s.inEnvironment t.environment = t := by
  constructor
  · obtain ⟨⟨_, _, _, _⟩, _⟩ := s
    obtain ⟨⟨_, _, _, _⟩, _⟩ := t
    simp only [SameBlock]
    rintro ⟨rfl, rfl, rfl, rfl, rfl, rfl, rfl, rfl, rfl, rfl, rfl, rfl, rfl, rfl, rfl, rfl, rfl, rfl, rfl, rfl, rfl, rfl,
      rfl, rfl, rfl⟩
    rfl
  · intro h
    rw [← h]
    exact ⟨rfl, rfl, rfl, rfl, rfl, rfl, rfl, rfl, rfl, rfl, rfl, rfl, rfl, rfl, rfl, rfl, rfl, rfl, rfl, rfl, rfl, rfl,
      rfl, rfl, rfl⟩

/-- Every event but the sample does the same to the block in every environment: `LR(false)` and the full-select write the
core plane and the sense latch only. -/
theorem emit_sameBlock (s : State) (v : Environment) {e : Event} (he : e ≠ .ss) :
    SameBlock (s.emit e) ((s.inEnvironment v).emit e) := by
  rw [sameBlock_iff]
  cases e with
  | ab b => rfl
  | w n => rfl
  | ss => exact absurd rfl he
  | dbg => rfl
  | lr b =>
    cases b
    · rw [emit_lr_false_frame s, emit_lr_false_frame (s.inEnvironment v)]
      rfl
    · rfl
  | br k b =>
    cases k with
    | x => rfl
    | inh0 => rfl
    | inh1 => rfl
    | y =>
      cases hb : conducts b
      · rw [emit_br_y_inert s hb, emit_br_y_inert (s.inEnvironment v) hb]
        rfl
      · rw [emit_br_y_conducting s hb, emit_br_y_conducting (s.inEnvironment v) hb, fullSelect_frame (s.setYbr b),
          fullSelect_frame ((s.inEnvironment v).setYbr b)]
        rfl

theorem sameBlock_setUpc {s t : State} (h : SameBlock s t) (u : Upc) : SameBlock (s.setUpc u) (t.setUpc u) := by
  rw [sameBlock_iff] at h ⊢
  rw [← h]
  rfl

theorem slotIf_sameBlock (s : State) (v : Environment) (n : Nat) (c : Bool) {e : Event} (he : e ≠ .ss) :
    SameBlock (s.slotIf n c e) ((s.inEnvironment v).slotIf n c e) := by
  cases c
  · exact (sameBlock_iff _ _).2 rfl
  · exact sameBlock_setUpc (emit_sameBlock s v he) _

theorem accept_sameBlock (s : State) (v : Environment) (op : Op) (a : Addr) (o : PulseOperands) :
    SameBlock (s.accept op a o) ((s.inEnvironment v).accept op a o) := by
  have hb : (s.inEnvironment v).busy = s.busy := rfl
  rw [sameBlock_iff]
  cases h : s.busy
  · rw [accept_idle h, accept_idle (hb.trans h)]
    rfl
  · rw [accept_busy h, accept_busy (hb.trans h)]
    rfl

theorem acceptValue_sameBlock (s : State) (v : Environment) (op : Op) (a : Addr) (x : Plane2) (o : PulseOperands) :
    SameBlock (s.acceptValue op a x o) ((s.inEnvironment v).acceptValue op a x o) := by
  have hb : (s.inEnvironment v).busy = s.busy := rfl
  rw [sameBlock_iff]
  cases h : s.busy
  · rw [acceptValue_idle h, acceptValue_idle (hb.trans h)]
    rfl
  · rw [acceptValue_busy h, acceptValue_busy (hb.trans h)]
    rfl

theorem endPulse_sameBlock (s : State) (v : Environment) : SameBlock s.endPulse (s.inEnvironment v).endPulse := by
  have hp : (s.inEnvironment v).phase = s.phase := rfl
  have ho : (s.inEnvironment v).op = s.op := rfl
  rw [sameBlock_iff]
  unfold State.endPulse
  rw [hp, ho]
  split <;> rfl

/-- Every instruction but SS does the same to the block in every environment. -/
theorem exec_sameBlock {i : Instr} {s s' : State} (v : Environment) (hi : i ≠ .ss) (he : exec i s = .next s') :
    ∃ t', exec i (s.inEnvironment v) = .next t' ∧ SameBlock s' t' := by
  cases i
  case ss => exact absurd rfl hi
  case reservedOp3 => cases he
  case pulse | read => cases he; exact ⟨_, rfl, accept_sameBlock s v _ _ _⟩
  case write => cases he; exact ⟨_, rfl, acceptValue_sameBlock s v _ _ _ _⟩
  case s2Lrf | s5Bri0 | s6Bri1 => cases he; exact ⟨_, rfl, slotIf_sameBlock s v _ _ (by simp)⟩
  all_goals cases he; exact ⟨_, rfl, slotIf_sameBlock s v _ true (by simp)⟩

theorem beforeExec_inEnvironment (s : State) (v : Environment) :
    (s.inEnvironment v).beforeExec = s.beforeExec.inEnvironment v := by
  have hp : (s.inEnvironment v).clockIn.phase = s.clockIn.phase := rfl
  unfold State.beforeExec State.takeCommand
  rw [hp]
  split <;> rfl

/-- Settles O60: outside SAMPLE both states take the same kind of step, and none of its operations lets the environment into
the block. -/
theorem environmentSeenOnlyBySample : Obligations.EnvironmentSeenOnlyBySample := by
  intro s t s' hst hp hstep
  rw [sameBlock_iff] at hst
  rw [← hst]
  generalize t.environment = v
  rcases step_cases hstep with
    ⟨hr, rfl⟩ | ⟨hr, ho, rfl⟩ | ⟨hr, ho, hf, rfl⟩ | ⟨hr, ho, hpulse, hu, rfl⟩ | ⟨hr, ho, c, i, hf, hd, he⟩
  · exact ⟨_, step_reset hr, (sameBlock_iff _ _).2 rfl⟩
  · exact ⟨_, step_unreachable hr ho, (sameBlock_iff _ _).2 rfl⟩
  · exact ⟨_, step_rest hr ho hf, (sameBlock_iff _ _).2 rfl⟩
  · exact ⟨_, step_endPulse hr ho hpulse hu, endPulse_sameBlock s.clockIn v⟩
  · have hss : i ≠ .ss := by
      rintro rfl
      rcases fetch_cases hf hd with ⟨-, w, -, -, hw⟩ | ⟨-, hslot⟩ | ⟨hs, -⟩
      · unfold decodeCmd at hw
        split at hw <;> cases hw
      · cases hslot
      · exact hp hs
    obtain ⟨t', ht', hb⟩ := exec_sameBlock v hss he
    rw [← beforeExec_inEnvironment] at ht'
    exact ⟨t', (step_exec (s := s.inEnvironment v) hr ho hf hd).trans ht', hb⟩

end Sys2Proof.Machine

/-! # Slot 8, the sample, and which steps touch the core plane (R71 to R77) -/

namespace Sys2Proof.Machine

/-! ## The full-select and the sense latch, ENV_IDEAL (R71, R76) -/

/-- ENV_IDEAL: states with one core plane and the same parameters hold the same in every cell. -/
theorem memRead_eq {s t : State} {a : Addr} (hc : t.cells = s.cells) (hp : t.params = s.params)
    (hi : s.params.env = .ideal) : t.memRead a = s.memRead a :=
  memRead_congr hc (by rw [hp]; exact hi) hi a

theorem fullSelect_params (s : State) (d : Bool) : (s.fullSelect d).params = s.params := by
  rw [fullSelect_frame]

/-- The cell on the bus after slot 8. -/
theorem execS8Bry_memRead_bus {s t : State} (hi : s.params.env = .ideal) (h : exec .s8Bry s = .next t) :
    t.memRead s.abus =
      if conducts s.xbr then pulsedCell (s.memRead s.abus) (fullPlanes s.inh0 s.inh1) s.dir else s.memRead s.abus := by
  cases (execS8Bry_eq s).symm.trans h
  have hf : ((s.setYbr (yDrive s.dir)).fullSelect s.dir).params.env = .ideal := by rw [fullSelect_params]; exact hi
  refine (memRead_eq ?_ ?_ hf).trans (fullSelect_memRead_bus (s := s.setYbr (yDrive s.dir)) hi s.dir)
  exacts [rfl, rfl]

theorem selectCell_latch (s : State) (d : Bool) :
    (s.selectCell d).latch = s.latch ∧ (s.selectCell d).latchFixed = s.latchFixed := by
  unfold State.selectCell
  dsimp only
  split_ifs <;> exact ⟨rfl, rfl⟩

/-- The sense latch after an armed full-select in the direction false, X conducting (R76 (b)). -/
theorem fullSelect_latch {s : State} (hi : s.params.env = .ideal) (hx : conducts s.xbr = true) (hl : s.lrst = true) :
    (s.fullSelect false).latch = capturedLatch s.latch (s.memRead s.abus) (fullPlanes s.inh0 s.inh1) ∧
    (s.fullSelect false).latchFixed = s.latchFixed := by
  have hc : s.captureLatch false =
      s.setLatch (capturedLatch s.latch (s.memRead s.abus) (fullPlanes s.inh0 s.inh1)) s.latchFixed := if_pos (by simp [hl])
  rw [fullSelect_ideal hi, if_pos hx, hc]
  exact selectCell_latch _ false

/-- The sense latch after slot 8 of such a pulse. -/
theorem execS8Bry_latch {s t : State} (hi : s.params.env = .ideal) (hx : conducts s.xbr = true) (hd : s.dir = false)
    (hl : s.lrst = true) (h : exec .s8Bry s = .next t) :
    t.latch = capturedLatch s.latch (s.memRead s.abus) (fullPlanes s.inh0 s.inh1) ∧ t.latchFixed = s.latchFixed := by
  cases (execS8Bry_eq s).symm.trans h
  have hsel := fullSelect_latch (s := s.setYbr (yDrive s.dir)) hi hx hl
  rw [← hd] at hsel
  exact hsel

/-- Settles O19: the cell is a `pulsedCell`, read plane by plane. -/
theorem fullSelectSetsPlanes : Obligations.FullSelectSetsPlanes := by
  intro s hi
  refine ⟨_, rfl, fun hx => ?_, fun hx => ?_⟩
  · rw [execS8Bry_memRead_bus hi rfl, hx, if_neg (by simp)]
  · obtain ⟨hp0, hp1⟩ := pulsedCell_planes (s.memRead s.abus) (fullPlanes s.inh0 s.inh1) s.dir
    obtain ⟨hf0, hf1⟩ := fullPlanes_planes s.inh0 s.inh1
    rw [execS8Bry_memRead_bus hi rfl, if_pos hx, hp0, hp1, hf0, hf1]
    cases conducts s.inh0 <;> cases conducts s.inh1 <;> exact ⟨rfl, rfl⟩

/-- Settles O20: `LR(false)` clears the latch; a plane with full current that held 1 goes to 0 and is captured. -/
theorem senseLatchCaptures : Obligations.SenseLatchCaptures := by
  refine fun s hi => ⟨fun hr => ?_, fun hx hd hl => ?_⟩
  · refine ⟨_, rfl, ?_⟩
    rw [hr, slotIf_true, slot_eq, emit_lr_false_ideal hi]
    exact ⟨rfl, rfl⟩
  · obtain ⟨hlatch, hfixed⟩ := execS8Bry_latch hi hx hd hl rfl
    obtain ⟨hp0, hp1⟩ := pulsedCell_planes (s.memRead s.abus) (fullPlanes s.inh0 s.inh1) s.dir
    obtain ⟨hc0, hc1⟩ := capturedLatch_planes s.latch (s.memRead s.abus) (fullPlanes s.inh0 s.inh1)
    refine ⟨_, rfl, hfixed, ?_⟩
    rw [execS8Bry_memRead_bus hi rfl, if_pos hx, hlatch, hc0, hc1, hp0, hp1, hd]
    cases (fullPlanes s.inh0 s.inh1).getLsbD 0 <;> cases (fullPlanes s.inh0 s.inh1).getLsbD 1 <;> simp

/-! ## The sample (R77, R124) -/

theorem senseLevels_ideal {s : State} (hi : s.params.env = .ideal) (hl : s.latchFixed = true) : s.senseLevels = s.latch := by
  simp [State.senseLevels, hi, hl]

theorem senseLevels_any {s : State} (ha : s.params.env = .any) {v : Plane2} {vs : List Plane2} (hv : s.senseIn = v :: vs) :
    s.senseLevels = v ∧ s.senseRest = vs := by
  simp [State.senseLevels, State.senseRest, ha, hv]

/-- Settles O21: SS is one record update, and the pair is the sense levels. -/
theorem sampleStartsRestorePulse : Obligations.SampleStartsRestorePulse := fun s =>
  ⟨s.senseLevels, s.senseRest, execSs_eq s, senseLevels_ideal, fun ha _ _ hv => senseLevels_any ha hv⟩

/-! ## Every step answers (R200), and only SAMPLE samples (R187) -/

/-- The one instruction that has no next state is the reserved one. -/
theorem exec_next_or_reserved (i : Instr) (s : State) : (∃ t, exec i s = .next t) ∨ i = .reservedOp3 := by
  cases i
  case reservedOp3 => exact .inr rfl
  all_goals exact .inl ⟨_, rfl⟩

theorem decodeCmd_reserved {w : Word} (h : decodeCmd w = .reservedOp3) : w &&& 0x3000#16 = 0x3000#16 := by
  refine (and_mask_iff_fieldOp w 3#2).2 (BitVec.eq_of_toNat_eq ?_)
  have hlt := (fieldOp w).isLt
  unfold decodeCmd at h
  split at h <;> simp only [reduceCtorEq] at h
  case h_4 h0 h1 h2 =>
    simp only [imp_false] at h0 h1 h2
    exact (by omega : (fieldOp w).toNat = 3)

/-- Settles O32: a reset, an unreachable place, rest and the end of a pulse always answer; of what is decoded, only a command
word can be reserved. -/
theorem stepAlwaysAnswers : Obligations.StepAlwaysAnswers := by
  intro s
  cases hr : s.rstHigh
  case true => exact .inl ⟨_, step_reset hr⟩
  cases ho : s.onSequence
  case false => exact .inl ⟨_, step_unreachable hr ho⟩
  cases hf : s.fetch
  case none => exact .inl ⟨_, step_rest hr ho hf⟩
  case some c =>
  cases hd : decode c
  case error e => cases e <;> exact .inl ⟨_, by simp only [step, hr, ho, hf, hd]; rfl⟩
  case ok i =>
  have hstep := step_exec hr ho hf hd
  rcases exec_next_or_reserved i s.beforeExec with ⟨t, ht⟩ | rfl
  · exact .inl ⟨t, hstep.trans ht⟩
  · rcases fetch_cases hf hd with ⟨hp, w, ws, hc, hw⟩ | ⟨-, hslot⟩ | ⟨-, hss⟩
    · exact .inr ⟨hstep, hp, w, ws, hc, decodeCmd_reserved hw.symm⟩
    · cases hslot
    · cases hss

/-- Settles O34: of the steps only a slot and the sample add to the trace, and a slot's event is never SS. -/
theorem sampleOnlyInSamplePhase : Obligations.SampleOnlyInSamplePhase := by
  intro s t hstep htr
  have hmore : t.trace ≠ s.trace := by simp [htr]
  rcases step_inversion hstep with
    ⟨-, rfl⟩ | ⟨-, ho, ⟨-, rfl⟩ | ⟨-, -, rfl⟩ | ⟨hp, w, ws, -, he⟩ | ⟨-, i, hi, he⟩ | ⟨hp, -⟩⟩
  · exact absurd rfl hmore
  · exact absurd rfl hmore
  · obtain ⟨d, m, r, rd, ph, dn, u, heq, -⟩ := endPulse_frame s.clockIn
    rw [heq] at hmore
    exact absurd rfl hmore
  · obtain ⟨op, a, o, v, rfl, -⟩ := decodeCmd_exec (by exact hp) he
    exact absurd rfl hmore
  · obtain ⟨e, hf, hss, -⟩ := slot_frame hi he
    have hse : [Event.ss] = [e] := List.append_cancel_left (htr.symm.trans (hf.trace.resolve_left hmore))
    cases hse
    exact absurd rfl hss
  · simp only [State.onSequence, hp, Bool.and_eq_true, beq_iff_eq] at ho
    exact ⟨hp, ho.1⟩

/-! ## The core plane (R73, R74) -/

/-- Settles O39: the composer's own steps, an accepted command and the sample leave the core plane, and of the slots only
slot 8 drives Y into conduction. -/
theorem onlyFullSelectChangesCells : Obligations.OnlyFullSelectChangesCells := by
  intro s t hi hr ho hstep
  have same (hc : t.cells = s.cells) (hp : t.params = s.params) :
      (t.cells = s.cells ∨ (s.inPulse = true ∧ s.upc = 8#5)) ∧ ∀ a : Addr, a ≠ s.abus → t.memRead a = s.memRead a :=
    ⟨.inl hc, fun a _ => memRead_congr hc (hp ▸ hi) hi a⟩
  rcases step_inversion_running hr ho hstep with
    ⟨-, rfl⟩ | ⟨-, -, rfl⟩ | ⟨hp, w, ws, -, he⟩ | ⟨hp, i, hslot, he⟩ | ⟨-, he⟩
  · exact same rfl rfl
  · obtain ⟨d, m, r, rd, ph, dn, u, heq, -⟩ := endPulse_frame s.clockIn
    exact same (by rw [heq]; rfl) (by rw [heq]; rfl)
  · obtain ⟨op, a, o, v, rfl, -⟩ := decodeCmd_exec (by exact hp) he
    exact same rfl rfl
  · obtain ⟨c, e, rfl, -, -, -, hy, -⟩ := slot_exec hslot he
    obtain ⟨hf, -⟩ := slotIf_frame s.clockIn s.upc.toNat c e
    refine ⟨?_, hf.memRead hi⟩
    by_cases h8 : s.upc = 8#5
    · exact .inr ⟨(inPulse_iff s).2 hp, h8⟩
    · have h8' : s.upc.toNat ≠ 8 := fun h => h8 (BitVec.eq_of_toNat_eq h)
      exact .inl (hf.cells fun v hv => (hy v hv).resolve_left h8')
  · cases (execSs_eq s.clockIn).symm.trans he
    exact same rfl rfl

/-- Settles O46: a reset and a full-select write a 2-bit value at an 8-bit address, the other steps write no cell. -/
theorem stepKeepsCorePlaneCanonical : Obligations.StepKeepsCorePlaneCanonical := by
  intro s t hs hstep
  have hs' : s.clockIn.cells.wf = true := hs
  rcases step_inversion hstep with
    ⟨-, rfl⟩ | ⟨-, -, ⟨-, rfl⟩ | ⟨-, -, rfl⟩ | ⟨hp, w, ws, -, he⟩ | ⟨-, i, hi, he⟩ | ⟨-, he⟩⟩
  · exact resetBlock_wf hs'
  · exact hs
  · obtain ⟨d, m, r, rd, ph, dn, u, heq, -⟩ := endPulse_frame s.clockIn
    rw [heq]
    exact hs
  · obtain ⟨op, a, o, v, rfl, -⟩ := decodeCmd_exec (by exact hp) he
    exact hs
  · obtain ⟨c, e, rfl, -⟩ := slot_exec hi he
    exact slotIf_wf _ c e hs'
  · cases (execSs_eq s.clockIn).symm.trans he
    exact hs

/-- Settles O8: `BitVec.ofNat` keeps the low bits. -/
theorem wideOperandsAreTruncated : Obligations.WideOperandsAreTruncated := fun a v _ _ =>
  ⟨BitVec.ofNat 8 a, BitVec.ofNat 2 v, BitVec.toNat_ofNat .., BitVec.toNat_ofNat .., rfl, rfl, rfl⟩

end Sys2Proof.Machine

/-! # Operations run to their end (R176, R184, R188) -/

namespace Sys2Proof.Machine

/-! ## Runs -/

/-- A run goes on from where its first `n` steps end. -/
theorem runSteps_add {s t : State} {n : Nat} (k : Nat) (h : runSteps n s = .next t) :
    runSteps (n + k) s = runSteps k t := by
  induction n generalizing s with
  | zero => cases h; rw [Nat.zero_add]
  | succ n ih =>
    rw [Nat.add_right_comm]
    cases hs : step s with
    | next u =>
      simp only [runSteps, hs] at h
      exact runSteps_succ hs (ih h)
    | fault f => simp [runSteps, hs] at h
    | refused r => simp [runSteps, hs] at h

/-- After `n` steps the low levels of `rst` that remain are the later ones. -/
theorem noReset_drop {s t : State} {n k : Nat} (h : s.noReset (n + k)) (ht : t.rstIn = s.rstIn.drop n) : t.noReset k := by
  intro b hb
  rw [ht, List.take_drop] at hb
  exact h b (List.mem_of_mem_drop hb)

theorem noReset_mono {s : State} {j k : Nat} (h : s.noReset k) (hj : j ≤ k) : s.noReset j :=
  fun b hb => h b (List.take_subset_take_left _ hj hb)

theorem rstHigh_of_noReset {s : State} {k : Nat} (h : s.noReset (k + 1)) : s.rstHigh = false :=
  noReset_low h (j := 0) (Nat.succ_pos k)

/-! ## The slots of a pulse, one after another -/

/-- The given instructions one after another, each in the state with the inputs moved on. -/
def execAll : List Instr → State → Host.Outcome State Fault Refusal
  | [], s => .next s
  | i :: is, s =>
    match exec i s.clockIn with
    | .next t => execAll is t
    | .fault f => .fault f
    | .refused r => .refused r

theorem execAll_append {is js : List Instr} {s t : State} (h : execAll is s = .next t) :
    execAll (is ++ js) s = execAll js t := by
  induction is generalizing s with
  | nil => cases h; rfl
  | cons i is ih =>
    cases he : exec i s.clockIn with
    | next u =>
      simp only [List.cons_append, execAll, he] at h ⊢
      exact ih h
    | fault f => simp [execAll, he] at h
    | refused r => simp [execAll, he] at h

theorem decodeSlot_of_encode {i : Instr} {u : Upc} (h : encode i = .slot u) : decodeSlot u = .ok i := by
  cases i <;> simp only [encode, reduceCtorEq, Code.slot.injEq] at h <;> subst h <;> rfl

/-- In a pulse with `rst` low, the steps run the slots from UPC on in their order (R28, R150). -/
theorem runSteps_eq_execAll (is : List Instr) {s : State} (ho : s.onSequence = true) (hp : s.inPulse = true)
    (hr : s.noReset is.length)
    (hs : is.map encode = (List.range' s.upc.toNat is.length).map fun n => .slot (BitVec.ofNat 5 n)) :
    runSteps is.length s = execAll is s := by
  induction is generalizing s with
  | nil => rfl
  | cons i is ih =>
    simp only [List.length_cons, List.range'_succ, List.map_cons, List.cons.injEq, BitVec.ofNat_toNat,
      BitVec.setWidth_eq] at hs hr
    obtain ⟨hi, hs⟩ := hs
    have hstep := step_slot (rstHigh_of_noReset hr) ho hp (decodeSlot_of_encode hi)
    obtain ⟨t, ht⟩ := exec_slot_next hi s.clockIn
    obtain ⟨e, hf, -, -, -, hu⟩ := slot_frame hi ht
    have hpt : t.inPulse = true := by rw [State.inPulse, hf.phase]; exact hp
    have hrt : t.noReset is.length :=
      noReset_drop (n := 1) (by rwa [Nat.add_comm]) (by rw [hf.rstIn, List.drop_one]; rfl)
    have hrest : runSteps is.length t = execAll is t :=
      ih (slot_onSequence (s := s.clockIn) ho hp hi ht) hpt hrt (by rw [hu]; exact hs)
    rw [List.length_cons, runSteps_succ (hstep.trans ht) hrest]
    simp only [execAll, ht]

/-! ## The conditional slots as one record update each -/

/-- `LR(false)` clears the sense latch under ENV_IDEAL (R76 (a)). -/
theorem slotIf_lr_false (s : State) (i : Nat) (c : Bool) :
    s.slotIf i c (.lr false) =
      { s with
        lrst := if c then false else s.lrst
        latch := if c && s.params.env = .ideal then 0#2 else s.latch
        latchFixed := c && s.params.env = .ideal || s.latchFixed
        trace := s.trace ++ eventIf c (.lr false)
        upc := BitVec.ofNat 5 (i + 1) } := by
  cases c
  case false => simp [slotIf_false, eventIf]
  case true =>
    rw [slotIf_true, slot_eq]
    cases he : s.params.env
    case any => rw [emit_lr_false_any he]; simp [eventIf]
    case ideal => rw [emit_lr_false_ideal he]; simp [eventIf]

theorem slotIf_br_inh0 (s : State) (i : Nat) (c : Bool) (v : BridgeState) :
    s.slotIf i c (.br .inh0 v) =
      { s with
        inh0 := if c then v else s.inh0
        trace := s.trace ++ eventIf c (.br .inh0 v)
        upc := BitVec.ofNat 5 (i + 1) } := by
  cases c
  · simp [slotIf_false, eventIf]
  · rfl

theorem slotIf_br_inh1 (s : State) (i : Nat) (c : Bool) (v : BridgeState) :
    s.slotIf i c (.br .inh1 v) =
      { s with
        inh1 := if c then v else s.inh1
        trace := s.trace ++ eventIf c (.br .inh1 v)
        upc := BitVec.ofNat 5 (i + 1) } := by
  cases c
  · simp [slotIf_false, eventIf]
  · rfl

/-! ## The three parts of a pulse: before Y, Y, after Y -/

/-- Slots 0 to 7. -/
def driveSlots : List Instr := [.s0Ab, .s1W2, .s2Lrf, .s3Brx, .s4Lrt, .s5Bri0, .s6Bri1, .s7W1a]

/-- Slots 9 to 16. -/
def releaseSlots : List Instr :=
  [.s9W10, .s10BryOff, .s11W1b, .s12Bri0Off, .s13Bri1Off, .s14BrxOff, .s15W5a, .s16W5b]

/-- What slots 0 to 7 emit (R151 to R157). -/
def driveTrace (a : Addr) (d : Bool) (m : Plane2) (r : Bool) : List Event :=
  [.ab a, .w 2] ++ eventIf r (.lr false) ++ [.br .x (xDrive a d), .lr true]
    ++ eventIf (!m.getLsbD 0) (.br .inh0 (inhDrive a d)) ++ eventIf (!m.getLsbD 1) (.br .inh1 (inhDrive a d)) ++ [.w 1]

/-- What slots 9 to 16 emit (R158 to R162). -/
def releaseTrace (p : Params) : List Event :=
  [.w 10, .br .y (noConduction p), .w 1, .br .inh0 (noConduction p), .br .inh1 (noConduction p),
    .br .x (noConduction p), .w 5, .w 5]

theorem xDrive_eq : ∀ (a : Addr) (d : Bool),
    xDrive a d = if d ^^ a.getLsbD 0 ^^ a.getLsbD 4 then .cd2 else .cd1 := by decide

theorem inhDrive_eq : ∀ (a : Addr) (d : Bool),
    inhDrive a d = if !a.getLsbD 4 ^^ d then .cd2 else .cd1 := by decide

/-- The trace of R176 is what the three parts emit. -/
theorem pulseTrace_eq (p : Params) (a : Addr) (d : Bool) (m : Plane2) (r : Bool) :
    pulseTrace p a d m r = driveTrace a d m r ++ [.br .y (yDrive d)] ++ releaseTrace p := by
  simp only [pulseTrace, driveTrace, releaseTrace, xDrive_eq, inhDrive_eq, yDrive, List.append_assoc, List.cons_append,
    List.nil_append]

/-- The state after slots 0 to 7 of a pulse begun in `s`. -/
def State.poised (s : State) : State :=
  { s with
    upc := 8#5
    abus := s.addr
    xbr := xDrive s.addr s.dir
    inh0 := if !s.mask.getLsbD 0 then inhDrive s.addr s.dir else s.inh0
    inh1 := if !s.mask.getLsbD 1 then inhDrive s.addr s.dir else s.inh1
    lrst := true
    qcnt := 0
    done := false
    rstIn := s.rstIn.drop 8
    trace := s.trace ++ driveTrace s.addr s.dir s.mask s.rl
    latch := if s.rl && s.params.env = .ideal then 0#2 else s.latch
    latchFixed := s.rl && s.params.env = .ideal || s.latchFixed }

theorem execAll_drive (s : State) : execAll driveSlots s = .next s.poised := by
  simp only [driveSlots, execAll, exec, execS0Ab, execS1W2, execS2Lrf, execS3Brx, execS4Lrt, execS5Bri0, execS6Bri1,
    execS7W1a, slot_eq, emit_ab, emit_w, emit_br_x, emit_lr_true, slotIf_lr_false, slotIf_br_inh0, slotIf_br_inh1,
    State.clockIn, ← List.drop_one, List.drop_drop]
  simp only [State.poised, driveTrace, tAddr, tInh, List.append_assoc, List.cons_append, List.nil_append]

/-- Slots 9 to 16 release the lines and wait. -/
theorem execAll_release (s : State) :
    execAll releaseSlots s = .next
      { s with
        upc := 17#5
        xbr := noConduction s.params
        ybr := noConduction s.params
        inh0 := noConduction s.params
        inh1 := noConduction s.params
        qcnt := 0
        done := false
        rstIn := s.rstIn.drop 8
        trace := s.trace ++ releaseTrace s.params } := by
  simp only [releaseSlots, execAll, exec, execS9W10, execS10BryOff, execS11W1b, execS12Bri0Off, execS13Bri1Off,
    execS14BrxOff, execS15W5a, execS16W5b, slot_eq, emit_w, emit_br_x, emit_br_inh0, emit_br_inh1,
    emit_br_y_inert _ (conducts_noConduction _), State.clockIn, ← List.drop_one, List.drop_drop]
  simp only [releaseTrace, tY, tYOff, tIdleA, tIdleB, List.append_assoc, List.cons_append, List.nil_append]

/-! ## A whole pulse -/

/-- The full-select of a pulse begun in `s`. -/
def State.selected (s : State) : State := (s.poised.clockIn.setYbr (yDrive s.dir)).fullSelect s.dir

/-- The state at the end of a pulse begun in `s`: the trace of R176, every bridge inert, the address on the bus, the latch
armed, and the environment as the full-select left it. -/
def State.pulsed (s : State) : State :=
  { s with
    upc := 17#5
    xbr := noConduction s.params
    ybr := noConduction s.params
    inh0 := noConduction s.params
    inh1 := noConduction s.params
    abus := s.addr
    lrst := true
    qcnt := 0
    done := false
    rstIn := s.rstIn.drop 17
    trace := s.trace ++ pulseTrace s.params s.addr s.dir s.mask s.rl
    cells := s.selected.cells
    latch := s.selected.latch
    latchFixed := s.selected.latchFixed }

/-- The 17 slots take a state to the end of its pulse. -/
theorem execAll_pulse (s : State) : execAll (driveSlots ++ .s8Bry :: releaseSlots) s = .next s.pulsed := by
  rw [execAll_append (execAll_drive s), execAll, execS8Bry_eq, fullSelect_frame]
  simp only [execAll_release]
  simp only [State.pulsed, State.selected, State.poised, State.clockIn, State.setYbr, pulseTrace_eq, List.append_assoc,
    ← List.drop_one, List.drop_drop]

/-- In a pulse at UPC 0 with `rst` low, 18 steps run the pulse and end it. -/
theorem runSteps_pulse {s : State} (ho : s.onSequence = true) (hp : s.inPulse = true) (hu : s.upc = 0#5)
    (hr : s.noReset 18) : runSteps 18 s = .next s.pulsed.clockIn.endPulse := by
  have hslots : runSteps 17 s = .next s.pulsed :=
    (runSteps_eq_execAll _ ho hp (noReset_mono hr (by decide)) (by rw [hu]; rfl)).trans (execAll_pulse s)
  have hend : step s.pulsed = .next s.pulsed.clockIn.endPulse := by
    refine step_endPulse (rstHigh_of_noReset (noReset_drop (n := 17) (k := 1) hr rfl)) ?_ ((inPulse_iff s).1 hp) rfl
    rcases (inPulse_iff s).1 hp with hph | hph <;> simp_all [State.onSequence, State.pulsed]
  rw [show 18 = 17 + 1 from rfl, runSteps_add 1 hslots]
  exact runSteps_succ hend rfl

/-- After a pulse all bridges are inert (R166). -/
theorem pulsed_bridgesInert (s : State) : s.pulsed.BridgesInert :=
  ⟨conducts_noConduction _, conducts_noConduction _, conducts_noConduction _, conducts_noConduction _⟩

/-! ## What a pulse does to the environment, ENV_IDEAL -/

/-- A direction-false pulse with a full mask clears the cell; a direction-true pulse then writes its mask. -/
theorem pulsedCell_set_clear : ∀ old v : Plane2, pulsedCell (pulsedCell old 0b11#2 false) v true = v := by decide

theorem capturedLatch_full : ∀ old : Plane2, capturedLatch 0#2 old 0b11#2 = old := by decide

section
variable {s : State} (hi : s.params.env = .ideal)
include hi

theorem pulsed_memRead (a : Addr) : s.pulsed.memRead a = s.selected.memRead a := by
  have hp : s.selected.params = s.params := fullSelect_params _ _
  exact memRead_eq rfl hp.symm (by rw [hp]; exact hi)

/-- A pulse changes no cell but the addressed one (R74). -/
theorem pulsed_memRead_other {a : Addr} (ha : a ≠ s.addr) : s.pulsed.memRead a = s.memRead a := calc
  s.pulsed.memRead a = s.selected.memRead a := pulsed_memRead hi a
  _ = (s.poised.clockIn.setYbr (yDrive s.dir)).memRead a := fullSelect_memRead_other _ _ ha
  _ = s.memRead a := memRead_eq rfl rfl hi

variable (hb : s.BridgesInert)
include hb

omit hi in
/-- With the bridges inert before the pulse, the planes that get full current are those of the mask (R73, R157). -/
theorem fullPlanes_poised : fullPlanes s.poised.inh0 s.poised.inh1 = s.mask := by
  obtain ⟨-, -, h0, h1⟩ := hb
  obtain ⟨hf0, hf1⟩ := fullPlanes_planes s.poised.inh0 s.poised.inh1
  apply plane_ext
  · rw [hf0]
    cases hm : s.mask.getLsbD 0 <;> simp [State.poised, -BitVec.getLsbD_eq_getElem, hm, h0]
  · rw [hf1]
    cases hm : s.mask.getLsbD 1 <;> simp [State.poised, -BitVec.getLsbD_eq_getElem, hm, h1]

/-- A pulse sets the masked planes of the addressed cell to the direction (R71). -/
theorem pulsed_memRead_addr : s.pulsed.memRead s.addr = pulsedCell (s.memRead s.addr) s.mask s.dir := calc
  s.pulsed.memRead s.addr = s.selected.memRead s.addr := pulsed_memRead hi _
  _ = pulsedCell (s.poised.memRead s.addr) (fullPlanes s.poised.inh0 s.poised.inh1) s.dir :=
    (fullSelect_memRead_bus (s := s.poised.clockIn.setYbr (yDrive s.dir)) hi s.dir).trans
      (if_pos (conducts_xDrive s.addr s.dir))
  _ = pulsedCell (s.memRead s.addr) s.mask s.dir := by
    rw [fullPlanes_poised hb, memRead_eq (t := s.poised) (s := s) rfl rfl hi]

/-- A direction-false pulse with RL true leaves in the latch the masked planes that held 1 (R76). -/
theorem pulsed_latch (hd : s.dir = false) (hr : s.rl = true) :
    s.pulsed.latch = capturedLatch 0#2 (s.memRead s.addr) s.mask ∧ s.pulsed.latchFixed = true := by
  obtain ⟨hl, hf⟩ := fullSelect_latch (s := s.poised.clockIn.setYbr (yDrive s.dir)) hi (conducts_xDrive s.addr s.dir) rfl
  have hcleared : s.poised.latch = 0#2 ∧ s.poised.latchFixed = true := by simp [State.poised, hr, hi]
  obtain ⟨hl0, hf0⟩ := hcleared
  have hsel : s.selected = (s.poised.clockIn.setYbr (yDrive s.dir)).fullSelect false := congrArg (State.fullSelect _) hd
  have hlatch : s.pulsed.latch =
      capturedLatch s.poised.latch (s.poised.memRead s.addr) (fullPlanes s.poised.inh0 s.poised.inh1) :=
    (congrArg State.latch hsel).trans hl
  have hfixed : s.pulsed.latchFixed = s.poised.latchFixed := (congrArg State.latchFixed hsel).trans hf
  rw [hlatch, hfixed, hl0, hf0, fullPlanes_poised hb, memRead_eq (t := s.poised) (s := s) rfl rfl hi]
  exact ⟨rfl, rfl⟩

end

/-! ## The three commands as runs -/

/-- The state in which the first pulse of an accepted command begins (R180, R182), the words `ws` left with the host. -/
def State.started (s : State) (ws : List Word) (op : Op) (a : Addr) (v : Plane2) (o : PulseOperands) : State :=
  { s with
    op := op
    addr := a
    value := v
    dir := o.dir
    mask := o.mask
    rl := o.rl
    upc := 0#5
    phase := .p1
    rstIn := s.rstIn.tail
    done := false
    cmdIn := ws }

/-- The state after SS: the sampled pair is VALUE and the mask of the restore pulse (R124, R182). -/
def State.sampled (s : State) : State :=
  { s with
    value := s.senseLevels
    dir := true
    mask := s.senseLevels
    rl := false
    upc := 0#5
    phase := .p2
    trace := s.trace ++ [.ss]
    senseIn := s.senseRest
    freeCount := s.freeCount + 1 }

/-- The state after a whole PULSE (R181, R191). -/
def State.afterPulse (s : State) (ws : List Word) (a : Addr) (o : PulseOperands) : State :=
  (s.started ws .pulse a s.value o).pulsed.clockIn.finish

/-- The state in which the set pulse of a WRITE begins, the clear pulse done (R182, R183). -/
def State.cleared (s : State) (ws : List Word) (a : Addr) (v : Plane2) : State :=
  (s.started ws .write a v clearOperands).pulsed.clockIn.startPulse (setOperandsOf v) .p2

/-- The state after a whole WRITE (R183, R191). -/
def State.afterWrite (s : State) (ws : List Word) (a : Addr) (v : Plane2) : State :=
  (s.cleared ws a v).pulsed.clockIn.finish

/-- The state in phase SAMPLE of a READ, the destructive read done (R186, R187). -/
def State.destructed (s : State) (ws : List Word) (a : Addr) : State :=
  { (s.started ws .read a s.value destructiveReadOperands).pulsed.clockIn with phase := .sample, upc := 0#5 }

/-- The state after a whole READ (R188, R189, R191). -/
def State.afterRead (s : State) (ws : List Word) (a : Addr) : State :=
  let u := (s.destructed ws a).clockIn.sampled.pulsed.clockIn
  { u with rdata := u.value }.finish

section
variable {s : State} {w : Word} {ws : List Word} {a : Addr} (hp : s.phase = .idle) (hu : s.upc = 0#5)
  (hc : s.cmdIn = w :: ws)
include hp hu hc

theorem step_pulse {d : Bool} {m : Plane2} {r : Bool} (hr : s.rstHigh = false) (hw : decodeCmd w = .pulse a d m r) :
    step s = .next (s.started ws .pulse a s.value { dir := d, mask := m, rl := r }) := by
  rw [step_command hr hp hu hc, hw, exec, execPulse, accept_idle (by simp [State.busy, hp])]
  rfl

theorem step_write {v : Plane2} (hr : s.rstHigh = false) (hw : decodeCmd w = .write a v) :
    step s = .next (s.started ws .write a v clearOperands) := by
  rw [step_command hr hp hu hc, hw, exec, execWrite, acceptValue_idle (by simp [State.busy, hp])]
  rfl

theorem step_read (hr : s.rstHigh = false) (hw : decodeCmd w = .read a) :
    step s = .next (s.started ws .read a s.value destructiveReadOperands) := by
  rw [step_command hr hp hu hc, hw, exec, execRead, accept_idle (by simp [State.busy, hp])]
  rfl

/-- A PULSE runs to its end in 19 steps. -/
theorem runSteps_afterPulse {d : Bool} {m : Plane2} {r : Bool} (hr : s.noReset 19) (hw : decodeCmd w = .pulse a d m r) :
    runSteps 19 s = .next (s.afterPulse ws a { dir := d, mask := m, rl := r }) :=
  runSteps_succ (step_pulse hp hu hc (rstHigh_of_noReset hr) hw)
    (runSteps_pulse rfl rfl rfl (noReset_drop (n := 1) hr List.drop_one.symm))

/-- A WRITE runs to its end in 37 steps: its acceptance and two pulses. -/
theorem runSteps_afterWrite {v : Plane2} (hr : s.noReset 37) (hw : decodeCmd w = .write a v) :
    runSteps 37 s = .next (s.afterWrite ws a v) := by
  have hr1 : (s.started ws .write a v clearOperands).noReset 36 := noReset_drop (n := 1) hr List.drop_one.symm
  have hr2 : (s.cleared ws a v).noReset 18 := noReset_drop (n := 18) hr1 List.tail_drop
  refine runSteps_succ (step_write hp hu hc (rstHigh_of_noReset hr) hw) ?_
  exact (runSteps_add 18 (runSteps_pulse rfl rfl rfl (noReset_mono hr1 (by decide)))).trans (runSteps_pulse rfl rfl rfl hr2)

/-- A READ runs to its end in 38 steps: its acceptance, a pulse, the sample and a pulse. -/
theorem runSteps_afterRead (hr : s.noReset 38) (hw : decodeCmd w = .read a) :
    runSteps 38 s = .next (s.afterRead ws a) := by
  have hr1 : (s.started ws .read a s.value destructiveReadOperands).noReset 37 :=
    noReset_drop (n := 1) hr List.drop_one.symm
  have hr2 : (s.destructed ws a).noReset 19 := noReset_drop (n := 18) hr1 List.tail_drop
  have hsample : step (s.destructed ws a) = .next (s.destructed ws a).clockIn.sampled :=
    step_sample (rstHigh_of_noReset hr2) rfl rfl rfl
  have hr3 : (s.destructed ws a).clockIn.sampled.noReset 18 := noReset_drop (n := 1) hr2 List.drop_one.symm
  refine runSteps_succ (step_read hp hu hc (rstHigh_of_noReset hr) hw) ?_
  refine (runSteps_add 19 (runSteps_pulse rfl rfl rfl (noReset_mono hr1 (by decide)))).trans ?_
  exact runSteps_succ hsample (runSteps_pulse rfl rfl rfl hr3)

end

theorem afterWrite_rstIn (s : State) (ws : List Word) (a : Addr) (v : Plane2) :
    (s.afterWrite ws a v).rstIn = s.rstIn.drop 37 := by
  simp [State.afterWrite, State.cleared, State.pulsed, State.started]

theorem afterRead_rstIn (s : State) (ws : List Word) (a : Addr) : (s.afterRead ws a).rstIn = s.rstIn.drop 38 := by
  simp [State.afterRead, State.destructed, State.sampled, State.pulsed, State.started]

/-! ## The cells after each operation, ENV_IDEAL (R71, R74, R78) -/

section
variable {s : State} (hi : s.params.env = .ideal) {ws : List Word} {a b : Addr} {op : Op} {v : Plane2} {o : PulseOperands}
include hi

theorem started_pulsed_memRead_other (hb : b ≠ a) : (s.started ws op a v o).pulsed.memRead b = s.memRead b :=
  (pulsed_memRead_other (s := s.started ws op a v o) hi hb).trans (memRead_eq rfl rfl hi)

theorem afterPulse_memRead_other (hb : b ≠ a) : (s.afterPulse ws a o).memRead b = s.memRead b := calc
  (s.afterPulse ws a o).memRead b = (s.started ws .pulse a s.value o).pulsed.memRead b := memRead_eq rfl rfl hi
  _ = s.memRead b := started_pulsed_memRead_other hi hb

theorem afterWrite_memRead_other (hb : b ≠ a) : (s.afterWrite ws a v).memRead b = s.memRead b := calc
  (s.afterWrite ws a v).memRead b = (s.cleared ws a v).pulsed.memRead b := memRead_eq rfl rfl hi
  _ = (s.cleared ws a v).memRead b := pulsed_memRead_other (s := s.cleared ws a v) hi hb
  _ = (s.started ws .write a v clearOperands).pulsed.memRead b := memRead_eq rfl rfl hi
  _ = s.memRead b := started_pulsed_memRead_other hi hb

theorem afterRead_memRead_other (hb : b ≠ a) : (s.afterRead ws a).memRead b = s.memRead b := calc
  (s.afterRead ws a).memRead b = (s.destructed ws a).clockIn.sampled.pulsed.memRead b := memRead_eq rfl rfl hi
  _ = (s.destructed ws a).clockIn.sampled.memRead b :=
    pulsed_memRead_other (s := (s.destructed ws a).clockIn.sampled) hi hb
  _ = (s.started ws .read a s.value destructiveReadOperands).pulsed.memRead b := memRead_eq rfl rfl hi
  _ = s.memRead b := started_pulsed_memRead_other hi hb

variable (hin : s.BridgesInert)
include hin

theorem started_pulsed_memRead_addr :
    (s.started ws op a v o).pulsed.memRead a = pulsedCell (s.memRead a) o.mask o.dir := by
  rw [← memRead_eq (t := s.started ws op a v o) (s := s) rfl rfl hi]
  exact pulsed_memRead_addr (s := s.started ws op a v o) hi hin

theorem afterPulse_memRead_addr : (s.afterPulse ws a o).memRead a = pulsedCell (s.memRead a) o.mask o.dir := calc
  (s.afterPulse ws a o).memRead a = (s.started ws .pulse a s.value o).pulsed.memRead a := memRead_eq rfl rfl hi
  _ = pulsedCell (s.memRead a) o.mask o.dir := started_pulsed_memRead_addr hi hin

/-- After `write(a, v)` the cell holds `v` (R78 (a)). -/
theorem afterWrite_memRead_addr : (s.afterWrite ws a v).memRead a = v := calc
  (s.afterWrite ws a v).memRead a = (s.cleared ws a v).pulsed.memRead a := memRead_eq rfl rfl hi
  _ = pulsedCell ((s.cleared ws a v).memRead a) v true :=
    pulsed_memRead_addr (s := s.cleared ws a v) hi (pulsed_bridgesInert (s.started ws .write a v clearOperands))
  _ = pulsedCell ((s.started ws .write a v clearOperands).pulsed.memRead a) v true := by
    rw [memRead_eq (t := s.cleared ws a v) (s := (s.started ws .write a v clearOperands).pulsed) rfl rfl hi]
  _ = pulsedCell (pulsedCell (s.memRead a) 0b11#2 false) v true := by rw [started_pulsed_memRead_addr hi hin]; rfl
  _ = v := pulsedCell_set_clear _ _

/-- What the destructive read leaves in the latch, and the sample answers, is what the cell held (R76, R77). -/
theorem destructed_senseLevels : (s.destructed ws a).clockIn.senseLevels = s.memRead a := by
  obtain ⟨hl, hf⟩ := pulsed_latch (s := s.started ws .read a s.value destructiveReadOperands) hi hin rfl rfl
  rw [senseLevels_ideal (s := (s.destructed ws a).clockIn) hi hf]
  exact hl.trans ((capturedLatch_full _).trans (memRead_eq rfl rfl hi))

/-- `read(a)` leaves in the cell what it held (R78 (b)). -/
theorem afterRead_memRead_addr : (s.afterRead ws a).memRead a = s.memRead a := by
  have hsame : (s.destructed ws a).clockIn.sampled.memRead a =
      (s.started ws .read a s.value destructiveReadOperands).pulsed.memRead a := memRead_eq rfl rfl hi
  have hd : (s.destructed ws a).clockIn.sampled.memRead a = pulsedCell (s.memRead a) 0b11#2 false :=
    hsame.trans (started_pulsed_memRead_addr hi hin)
  calc (s.afterRead ws a).memRead a
    _ = (s.destructed ws a).clockIn.sampled.pulsed.memRead a := memRead_eq rfl rfl hi
    _ = pulsedCell ((s.destructed ws a).clockIn.sampled.memRead a) (s.destructed ws a).clockIn.senseLevels true :=
      pulsed_memRead_addr (s := (s.destructed ws a).clockIn.sampled) hi
        (pulsed_bridgesInert (s.started ws .read a s.value destructiveReadOperands))
    _ = s.memRead a := by rw [hd, destructed_senseLevels hi hin, pulsedCell_set_clear]

/-- `read(a)` returns what the cell held (R78 (b), R189). -/
theorem afterRead_rdata : (s.afterRead ws a).rdata = s.memRead a := destructed_senseLevels hi hin

end

/-! ## Where the operations end -/

/-- Settles O53: every register of the state after a PULSE is written out, and its one pulse leaves the other cells. -/
theorem pulseCommandRunsToEnd : Obligations.PulseCommandRunsToEnd := by
  intro s w ws a d m r hp hu hr hc hw
  exact ⟨_, runSteps_afterPulse hp hu hc hr hw, rfl, rfl, rfl, rfl, rfl, rfl, rfl, rfl, rfl, rfl, rfl, rfl, rfl, rfl, rfl,
    rfl, rfl, rfl, rfl, rfl, rfl, fun hi b hb => afterPulse_memRead_other hi hb⟩

/-- Settles O54: the two pulses of a WRITE. -/
theorem writeCommandRunsToEnd : Obligations.WriteCommandRunsToEnd := by
  intro s w ws a v hp hu hr hc hw
  exact ⟨_, runSteps_afterWrite hp hu hc hr hw, List.append_assoc .., rfl, rfl, rfl, rfl, rfl, rfl, rfl, rfl, rfl, rfl,
    rfl, rfl, rfl, rfl, rfl, rfl, rfl, fun hi b hb => afterWrite_memRead_other hi hb⟩

/-- Settles O55: the two pulses of a READ, whatever pair the sample between them answers. -/
theorem readCommandRunsToEnd : Obligations.ReadCommandRunsToEnd := by
  intro s w ws a hp hu hr hc hw
  have htrace : (s.afterRead ws a).trace =
      s.trace ++ readTrace s.params a (s.destructed ws a).clockIn.senseLevels := by
    simp only [readTrace, ← List.append_assoc]
    rfl
  exact ⟨_, _, runSteps_afterRead hp hu hc hr hw, htrace, rfl, rfl, rfl, rfl, rfl, rfl, rfl, rfl, rfl, rfl, rfl, rfl, rfl,
    rfl, rfl, rfl, rfl, fun hi b hb => afterRead_memRead_other hi hb,
    fun ha u us hv => (senseLevels_any (s := (s.destructed ws a).clockIn) ha hv).1⟩

/-- An idle block that meets the sequence invariant is at UPC 0 with its bridges inert. -/
theorem idle_of_sequenceInv {s : State} (h : s.SequenceInv) (hp : s.phase = .idle) : s.upc = 0#5 ∧ s.BridgesInert := by
  obtain ⟨ho, hw, -⟩ := h
  refine ⟨?_, (bridgesInWindow_iff_inert (.inl (by simp [State.inPulse, hp]))).1 hw⟩
  simpa [State.onSequence, hp] using ho

/-- Settles O56: the cell is a `pulsedCell`, read plane by plane. -/
theorem idealPulseSetsMaskedPlanes : Obligations.IdealPulseSetsMaskedPlanes := by
  intro s w ws a d m r hi hs hp hr hc hw
  obtain ⟨hu, hin⟩ := idle_of_sequenceInv hs hp
  obtain ⟨h0, h1⟩ := pulsedCell_planes (s.memRead a) m d
  refine ⟨_, runSteps_afterPulse hp hu hc hr hw, rfl, ?_, ?_, fun b hb => afterPulse_memRead_other hi hb⟩
  · rw [afterPulse_memRead_addr hi hin, h0]
  · rw [afterPulse_memRead_addr hi hin, h1]

/-- Settles O57: the clear pulse empties the cell, the set pulse writes the value. -/
theorem idealWriteStoresValue : Obligations.IdealWriteStoresValue := by
  intro s w ws a v hi hs hp hr hc hw
  obtain ⟨hu, hin⟩ := idle_of_sequenceInv hs hp
  exact ⟨_, runSteps_afterWrite hp hu hc hr hw, rfl, afterWrite_memRead_addr hi hin,
    fun b hb => afterWrite_memRead_other hi hb⟩

/-- Settles O58: the destructive read moves the content to the latch, the restore pulse moves it back. -/
theorem idealReadReturnsAndRestores : Obligations.IdealReadReturnsAndRestores := by
  intro s w ws a hi hs hp hr hc hw
  obtain ⟨hu, hin⟩ := idle_of_sequenceInv hs hp
  exact ⟨_, runSteps_afterRead hp hu hc hr hw, rfl, afterRead_rdata hi hin, afterRead_memRead_addr hi hin,
    fun b hb => afterRead_memRead_other hi hb⟩

/-- Settles O59: a WRITE and two READs, each begun in the state in which the one before it ended. -/
theorem idealRestoreIdempotence : Obligations.IdealRestoreIdempotence := by
  intro s w w1 w2 ws a v hi hs hp hr hc hw hw1 hw2
  obtain ⟨hu, hin⟩ := idle_of_sequenceInv hs hp
  let x := s.afterWrite (w1 :: w2 :: ws) a v
  let t := x.afterRead (w2 :: ws) a
  have hrx : x.noReset 76 := noReset_drop (n := 37) hr (afterWrite_rstIn ..)
  have hrt : t.noReset 38 := noReset_drop (n := 38) hrx (afterRead_rstIn ..)
  have hx : x.memRead a = v := afterWrite_memRead_addr hi hin
  have ht : t.memRead a = v := (afterRead_memRead_addr (s := x) hi (pulsed_bridgesInert _)).trans hx
  refine ⟨t, t.afterRead ws a, ?_, rfl, ?_, runSteps_afterRead rfl rfl rfl hrt hw2, rfl, ?_, ?_, rfl, fun b hb => ?_⟩
  · exact (runSteps_add 38 (runSteps_afterWrite hp hu hc (noReset_mono hr (by decide)) hw)).trans
      (runSteps_afterRead rfl rfl rfl (noReset_mono hrx (by decide)) hw1)
  · exact (afterRead_rdata (s := x) hi (pulsed_bridgesInert _)).trans hx
  · exact (afterRead_rdata (s := t) hi (pulsed_bridgesInert _)).trans ht
  · exact (afterRead_memRead_addr (s := t) hi (pulsed_bridgesInert _)).trans ht
  · exact (afterRead_memRead_other (s := t) hi hb).trans
      ((afterRead_memRead_other (s := x) hi hb).trans (afterWrite_memRead_other hi hb))

end Sys2Proof.Machine

/-! # Command words: fields, canonical form, and rows of the opcode table (R90 to R94, R100 to R102) -/

namespace Sys2Proof.Machine

/-! ## The decoder undoes the encoder -/

/-- Settles O1: a command's operands are read back from the fields they were packed in, by `fieldOp_packCmd` and its
companions; a slot or the sample is its number. -/
theorem decodeEncodeRoundTrip : Obligations.DecodeEncodeRoundTrip := by
  intro i
  cases i
  case pulse | write | read | reservedOp3 => simp [encode, decode, decodeCmd]
  all_goals rfl

theorem decodeCmd_of_encode {i : Instr} {w : Word} (h : encode i = .cmd w) : decodeCmd w = i := by
  have hi := decodeEncodeRoundTrip i
  rw [h] at hi
  exact Except.ok.inj hi

theorem encode_injective : Function.Injective encode := fun i j h =>
  Except.ok.inj <| (decodeEncodeRoundTrip i).symm.trans (h ▸ decodeEncodeRoundTrip j)

/-! ## The four readings of a command word -/

section
variable {w : Word}

theorem decodeCmd_pulse (h : w &&& 0x3000#16 = 0x0000#16) :
    decodeCmd w = .pulse (fieldAddr w) (fieldDir w) (fieldVal w) (fieldRl w) := by
  simp [decodeCmd, (and_mask_iff_fieldOp w 0#2).1 h]

theorem decodeCmd_write (h : w &&& 0x3000#16 = 0x1000#16) : decodeCmd w = .write (fieldAddr w) (fieldVal w) := by
  simp [decodeCmd, (and_mask_iff_fieldOp w 1#2).1 h]

theorem decodeCmd_read (h : w &&& 0x3000#16 = 0x2000#16) : decodeCmd w = .read (fieldAddr w) := by
  simp [decodeCmd, (and_mask_iff_fieldOp w 2#2).1 h]

theorem decodeCmd_reservedOp3 (h : w &&& 0x3000#16 = 0x3000#16) : decodeCmd w = .reservedOp3 := by
  simp [decodeCmd, (and_mask_iff_fieldOp w 3#2).1 h]

end

/-- The mask 0x3000 leaves one of the four values of `op`. -/
theorem opBits_cases (w : Word) :
    w &&& 0x3000#16 = 0x0000#16 ∨ w &&& 0x3000#16 = 0x1000#16 ∨ w &&& 0x3000#16 = 0x2000#16 ∨
      w &&& 0x3000#16 = 0x3000#16 := by
  have hop : ∀ k : BitVec 2, k = 0#2 ∨ k = 1#2 ∨ k = 2#2 ∨ k = 3#2 := by decide
  exact (hop (fieldOp w)).imp (and_mask_iff_fieldOp w 0#2).2 <| Or.imp (and_mask_iff_fieldOp w 1#2).2 <|
    Or.imp (and_mask_iff_fieldOp w 2#2).2 (and_mask_iff_fieldOp w 3#2).2

/-! ## The fields as numbers -/

theorem fieldAddr_eq_ofNat (w : Word) : fieldAddr w = BitVec.ofNat 8 w.toNat := rfl

theorem fieldVal_eq_ofNat (w : Word) : fieldVal w = BitVec.ofNat 2 (w.toNat / 256) := by
  rw [fieldVal, BitVec.extractLsb', Nat.shiftRight_eq_div_pow]

theorem fieldDir_eq_decide (w : Word) : fieldDir w = decide (w.toNat / 1024 % 2 = 1) :=
  Nat.testBit_eq_decide_div_mod_eq

theorem fieldRl_eq_decide (w : Word) : fieldRl w = decide (w.toNat / 2048 % 2 = 1) :=
  Nat.testBit_eq_decide_div_mod_eq

/-- Settles O2: each reading of a word, its fields written as numbers. -/
theorem commandWordFields : Obligations.CommandWordFields := by
  intro w
  simp only [← fieldAddr_eq_ofNat, ← fieldVal_eq_ofNat, ← fieldDir_eq_decide, ← fieldRl_eq_decide]
  exact ⟨decodeCmd_pulse, decodeCmd_write, decodeCmd_read, decodeCmd_reservedOp3⟩

/-! ## The code of what a word decodes to: the word with its ignored bits cleared (R102) -/

/-- A word packed from its fields with some operand bits cleared is the word under the mask that clears them and bits
15:14. -/
theorem packCmd_cleared (w : Word) (r d : Bool) (v : Plane2) :
    packCmd (fieldOp w) (fieldRl w && r) (fieldDir w && d) (fieldVal w &&& v) (fieldAddr w) =
      w &&& packCmd 3#2 r d v 0xFF#8 := by
  apply BitVec.eq_of_getLsbD_eq
  intro i hi
  simp only [packCmd_getLsbD, fieldOp, fieldRl, fieldDir, fieldVal, fieldAddr, BitVec.getLsbD_extractLsb',
    BitVec.getLsbD_and]
  interval_cases i <;> simp

section
variable {w : Word}

theorem encode_decodeCmd_pulse (h : w &&& 0x3000#16 = 0x0000#16) : encode (decodeCmd w) = .cmd (w &&& 0x3FFF#16) := by
  rw [decodeCmd_pulse h, encode, ← (and_mask_iff_fieldOp w 0#2).1 h, packCmd_fields]

theorem encode_decodeCmd_write (h : w &&& 0x3000#16 = 0x1000#16) : encode (decodeCmd w) = .cmd (w &&& 0x33FF#16) := by
  have hpack := packCmd_cleared w false false (BitVec.allOnes 2)
  rw [BitVec.and_allOnes, Bool.and_false, Bool.and_false, (and_mask_iff_fieldOp w 1#2).1 h] at hpack
  rw [decodeCmd_write h, encode, hpack]
  rfl

theorem encode_decodeCmd_read (h : w &&& 0x3000#16 = 0x2000#16) : encode (decodeCmd w) = .cmd (w &&& 0x30FF#16) := by
  have hpack := packCmd_cleared w false false 0#2
  rw [BitVec.and_zero, Bool.and_false, Bool.and_false, (and_mask_iff_fieldOp w 2#2).1 h] at hpack
  rw [decodeCmd_read h, encode, hpack]
  rfl

end

/-- Settles O3: packing the fields clears bits 15:14, and for a WRITE or a READ the cleared word is the code of what the word
decodes to. -/
theorem ignoredBitsReadAsZero : Obligations.IgnoredBitsReadAsZero := by
  intro w
  refine ⟨?_, fun h => (decodeCmd_of_encode (encode_decodeCmd_write h)).symm,
    fun h => (decodeCmd_of_encode (encode_decodeCmd_read h)).symm⟩
  rw [← packCmd_fields]
  simp [decodeCmd]

/-! ## Canonical words -/

/-- A word with no bit of a mask set is unchanged by clearing the mask's bits. -/
theorem and_eq_zero_iff_and_not_eq (w m : Word) : w &&& m = 0#16 ↔ w &&& ~~~m = w := by
  have hsplit : w &&& m ||| w &&& ~~~m = w := by
    rw [← BitVec.and_or_distrib_left, BitVec.or_not_self, BitVec.and_allOnes]
  constructor
  · intro h
    simpa [h] using hsplit
  · intro h
    rw [← h, BitVec.and_assoc, BitVec.and_comm (~~~m), BitVec.and_not_self]
    exact BitVec.and_zero

/-- A canonical word is one that the encoder gives back, of a command other than the reserved one (R90, R102). -/
theorem canonical_iff_encode (w : Word) :
    w.canonical = true ↔ (decodeCmd w).wf = true ∧ encode (decodeCmd w) = .cmd w := by
  have hpulse := and_eq_zero_iff_and_not_eq w 0xC000#16
  have hwrite := and_eq_zero_iff_and_not_eq w (0xC000#16 ||| 0x0C00#16)
  have hread := and_eq_zero_iff_and_not_eq w (0xC000#16 ||| 0x0F00#16)
  rw [BitVec.and_or_distrib_left, BitVec.or_eq_zero_iff] at hwrite hread
  rcases opBits_cases w with h | h | h | h
  · rw [encode_decodeCmd_pulse h, decodeCmd_pulse h]
    simpa [Word.canonical, Instr.wf, h] using hpulse
  · rw [encode_decodeCmd_write h, decodeCmd_write h]
    simpa [Word.canonical, Instr.wf, h] using hwrite
  · rw [encode_decodeCmd_read h, decodeCmd_read h]
    simpa [Word.canonical, Instr.wf, h] using hread
  · simp [Word.canonical, Instr.wf, h, decodeCmd_reservedOp3 h]

/-- Settles O4: both directions are `canonical_iff_encode`, the encoded instruction being what its word decodes to. -/
theorem canonicalWordsRoundTrip : Obligations.CanonicalWordsRoundTrip := by
  refine ⟨fun i w hwf hw => ?_, fun w hw => ((canonical_iff_encode w).1 hw).2⟩
  rw [canonical_iff_encode, decodeCmd_of_encode hw]
  exact ⟨hwf, hw⟩

/-! ## Rows of the opcode table -/

/-- A command word's row holds the words with the same `op` bits. -/
theorem inRow_decodeCmd (w w' : Word) :
    inRow (decodeCmd w) (.cmd w') = (w' &&& 0x3000#16 == w &&& 0x3000#16) := by
  rcases opBits_cases w with h | h | h | h
  · rw [decodeCmd_pulse h, h, inRow]
  · rw [decodeCmd_write h, h, inRow]
  · rw [decodeCmd_read h, h, inRow]
  · rw [decodeCmd_reservedOp3 h, h, inRow]

/-- A slot's row is its one number. -/
theorem inRow_slot_iff (i : Instr) (n : Upc) : inRow i (.slot n) = true ↔ encode i = .slot n := by
  cases i <;> simp [inRow, encode, eq_comm (a := n)]

/-- The row of the sample is its one number. -/
theorem inRow_phase_iff (i : Instr) (p : BitVec 2) : inRow i (.phase p) = true ↔ encode i = .phase p := by
  cases i <;> simp [inRow, encode, eq_comm (a := p)]

theorem decodePhase_ok {p : BitVec 2} {i : Instr} (h : decodePhase p = .ok i) : encode i = .phase p := by
  unfold decodePhase at h
  split at h
  · cases h
    exact congrArg Code.phase (BitVec.eq_of_toNat_eq ‹p.toNat = 2›.symm)
  · cases h

/-- An instruction whose row holds a command word is of the row of what the word decodes to. -/
theorem inRow_eq_of_inRow_cmd {j : Instr} {w : Word} (h : inRow j (.cmd w) = true) (c : Code) :
    inRow (decodeCmd w) c = inRow j c := by
  cases j
  case pulse => rw [decodeCmd_pulse (eq_of_beq h)]; cases c <;> rfl
  case write => rw [decodeCmd_write (eq_of_beq h)]; cases c <;> rfl
  case read => rw [decodeCmd_read (eq_of_beq h)]; cases c <;> rfl
  case reservedOp3 => rw [decodeCmd_reservedOp3 (eq_of_beq h)]
  all_goals cases h

/-- Settles O6: a slot's or the sample's row is its one code; a command's row is fixed by the `op` bits. -/
theorem decodedCodeLiesInOneRow : Obligations.DecodedCodeLiesInOneRow := by
  constructor
  · intro c i h
    cases c with
    | cmd w =>
      cases h
      rw [inRow_decodeCmd, beq_self_eq_true]
    | slot n => exact (inRow_slot_iff i n).2 (decodeSlot_ok h)
    | phase p => exact (inRow_phase_iff i p).2 (decodePhase_ok h)
  · intro c i j h hj c'
    cases c with
    | cmd w =>
      cases h
      exact inRow_eq_of_inRow_cmd hj c'
    | slot n => rw [encode_injective ((decodeSlot_ok h).trans ((inRow_slot_iff j n).1 hj).symm)]
    | phase p => rw [encode_injective ((decodePhase_ok h).trans ((inRow_phase_iff j p).1 hj).symm)]

/-! ## Fixed words, and the reserved word -/

/-- Settles O7, by evaluation of the nine codes. -/
theorem specWordsDecode : Obligations.SpecWordsDecode := by
  unfold Obligations.SpecWordsDecode
  decide

/-- Settles O26: `op` 3 is the reserved reading, whose meaning is the refusal. -/
theorem reservedOpIsRefused : Obligations.ReservedOpIsRefused :=
  ⟨fun _ => decodeCmd_reservedOp3, fun _ => rfl⟩

end Sys2Proof.Machine

/-! # Each event writes the one output register it names (R121 to R123, R125, R128) -/

namespace Sys2Proof.Machine

/-- `BR(y, v)` changes the Y register and the trace; of the environment, where Y begins to conduct, the core plane and the
sense latch (R121, R73). -/
theorem emit_br_y_frame (s : State) (v : BridgeState) :
    s.emit (.br .y v) =
      { s with
        ybr := v
        cells := (s.emit (.br .y v)).cells
        latch := (s.emit (.br .y v)).latch
        latchFixed := (s.emit (.br .y v)).latchFixed
        trace := s.trace ++ [.br .y v] } := by
  cases hv : conducts v
  · rw [emit_br_y_inert s hv]
  · rw [emit_br_y_conducting s hv, fullSelect_frame]
    rfl

/-- Settles O41: each event is a record update of the register it names; what `LR(false)` and a conducting Y bridge do to the
environment touches no output register. -/
theorem eventWritesItsOwnRegister : Obligations.EventWritesItsOwnRegister := by
  intro s e
  cases e
  case lr v =>
    cases v
    case false =>
      rw [emit_lr_false_frame]
      exact ⟨rfl, rfl, rfl, rfl, rfl, rfl, rfl⟩
    case true => exact ⟨rfl, rfl, rfl, rfl, rfl, rfl, rfl⟩
  case br k v =>
    cases k
    case y =>
      rw [emit_br_y_frame]
      exact ⟨rfl, rfl, rfl, rfl, rfl, rfl, rfl⟩
    all_goals exact ⟨rfl, rfl, rfl, rfl, rfl, rfl, rfl⟩
  all_goals exact ⟨rfl, rfl, rfl, rfl, rfl, rfl, rfl⟩

end Sys2Proof.Machine

/-! # The Address Encoder in bit form: two slices and two parities (R141, R142, R143) -/

namespace Sys2Proof.Machine

/-- The mask of R141 is redundant once four bits are kept (R143). -/
theorem setWidth_and_mask_eq_slice (b : Addr) : (b &&& 0xF#8).setWidth 4 = b.extractLsb' 0 4 := by
  apply BitVec.eq_of_toNat_eq
  rw [BitVec.toNat_setWidth, BitVec.toNat_and, BitVec.extractLsb'_toNat, Nat.shiftRight_zero]
  change (b.toNat &&& (2 ^ 4 - 1)) % 2 ^ 4 = b.toNat % 2 ^ 4
  rw [Nat.and_two_pow_sub_one_eq_mod, Nat.mod_mod]

theorem coordX_eq_slice (a : Addr) : coordX a = a.extractLsb' 0 4 :=
  setWidth_and_mask_eq_slice a

theorem coordY_eq_slice (a : Addr) : coordY a = a.extractLsb' 4 4 :=
  setWidth_and_mask_eq_slice (a >>> 4)

/-- The parity of a sum is the exclusive or of the two low bits, whatever the carries (R143). -/
theorem parity_add_eq_xor (m n : Nat) : ((m + n) % 2 != 0) = (m.testBit 0 ^^ n.testBit 0) := by
  rw [Nat.testBit_zero, Nat.testBit_zero, Nat.add_mod]
  rcases Nat.mod_two_eq_zero_or_one m with hm | hm <;> rcases Nat.mod_two_eq_zero_or_one n with hn | hn <;>
    rw [hm, hn] <;> rfl

theorem coordX_testBit_zero (a : Addr) : (coordX a).toNat.testBit 0 = a.getLsbD 0 := by
  rw [coordX_eq_slice, BitVec.testBit_toNat, BitVec.getLsbD_extractLsb']
  rfl

theorem coordY_testBit_zero (a : Addr) : (coordY a).toNat.testBit 0 = a.getLsbD 4 := by
  rw [coordY_eq_slice, BitVec.testBit_toNat, BitVec.getLsbD_extractLsb']
  rfl

theorem invertX_eq_xor (a : Addr) : invertX a = (a.getLsbD 0 ^^ a.getLsbD 4) := by
  rw [invertX, parity_add_eq_xor, coordX_testBit_zero, coordY_testBit_zero]

theorem invertInhibitBase_eq_not (a : Addr) : invertInhibitBase a = !a.getLsbD 4 := by
  rw [← coordY_testBit_zero, invertInhibitBase, Nat.testBit_zero]
  rcases Nat.mod_two_eq_zero_or_one (coordY a).toNat with h | h <;> rw [h] <;> rfl

/-- Settles O9: the coordinates are slices, and each flag is a parity, which is a low bit. -/
theorem addressDecodeBits : Obligations.AddressDecodeBits := by
  intro a
  rw [addressDecode, coordX_eq_slice, coordY_eq_slice, invertX_eq_xor, invertInhibitBase_eq_not]

/-- Settles O10: the source's arithmetic, evaluated at its three addresses. -/
theorem sourceDecodeExamples : Obligations.SourceDecodeExamples := by
  unfold Obligations.SourceDecodeExamples
  decide

end Sys2Proof.Machine

/-! # The conduction windows of a pulse nest (R157, R167) -/

namespace Sys2Proof.Machine

/-- A bridge that its window drives into conduction conducts exactly inside the window. -/
theorem conducts_of_inWindow {on : Bool} {drive r : BridgeState} (h : InWindow on drive r)
    (hd : conducts drive = true) : conducts r = on := by
  cases on
  case false => exact h
  case true => rw [show r = drive from h, hd]

/-- A wider window holds the places of a narrower one. -/
theorem upcWithin_mono {s : State} {lo hi lo' hi' : Nat} (h : s.upcWithin lo hi = true) (hlo : lo' ≤ lo)
    (hhi : hi ≤ hi') : s.upcWithin lo' hi' = true := by
  simp only [State.upcWithin, Bool.and_eq_true, decide_eq_true_eq] at h ⊢
  obtain ⟨⟨hp, hl⟩, hh⟩ := h
  exact ⟨⟨hp, hlo.trans hl⟩, hh.trans hhi⟩

/-- Settles O48: Y's window lies inside the windows of the inhibit bridges, and these inside X's. -/
theorem conductionWindowsNest : Obligations.ConductionWindowsNest := by
  intro s h
  obtain ⟨-, hw, -⟩ := h
  obtain ⟨hx, hy, h0, h1⟩ := (bridgesInWindow_iff s).1 hw
  rw [conducts_of_inWindow hx (conducts_xDrive ..), conducts_of_inWindow hy (conducts_yDrive ..),
    conducts_of_inWindow h0 (conducts_inhDrive ..), conducts_of_inWindow h1 (conducts_inhDrive ..)]
  refine ⟨fun hon => ⟨upcWithin_mono hon (by decide) (by decide), ?_, ?_⟩, ?_, fun hc0 hc1 => ?_⟩
  · rw [upcWithin_mono hon (by decide) (by decide), Bool.true_and]
  · rw [upcWithin_mono hon (by decide) (by decide), Bool.true_and]
  · simp only [Bool.and_eq_true]
    rintro (⟨hon, -⟩ | ⟨hon, -⟩) <;> exact upcWithin_mono hon (by decide) (by decide)
  · rw [hc0] at h0
    rw [hc1] at h1
    exact h0.trans h1.symm

end Sys2Proof.Machine

/-! # Counts of a pulse's trace: events, waits, and how long each bridge conducts (R167, R168, R240) -/

namespace Sys2Proof.Machine

/-! ## Counts of a conditional event -/

@[simp] theorem length_eventIf (c : Bool) (e : Event) : (eventIf c e).length = c.toNat := by
  cases c <;> rfl

@[simp] theorem waitsOf_eventIf_lr (c v : Bool) (es : List Event) :
    waitsOf (eventIf c (.lr v) ++ es) = waitsOf es := by
  cases c <;> rfl

@[simp] theorem waitsOf_eventIf_br (c : Bool) (j : Bridge) (v : BridgeState) (es : List Event) :
    waitsOf (eventIf c (.br j v) ++ es) = waitsOf es := by
  cases c <;> rfl

@[simp] theorem conductionQuanta_eventIf_lr (k : Bridge) (on c v : Bool) (es : List Event) :
    conductionQuanta k on (eventIf c (.lr v) ++ es) = conductionQuanta k on es := by
  cases c <;> rfl

@[simp] theorem conductionQuanta_eventIf_br (k j : Bridge) (on c : Bool) (v : BridgeState) (es : List Event) :
    conductionQuanta k on (eventIf c (.br j v) ++ es) =
      conductionQuanta k (if c = true ∧ j = k then conducts v else on) es := by
  cases c <;> simp [eventIf, conductionQuanta]

/-! ## Counts of a whole pulse -/

section
variable (p : Params) (a : Addr) (d : Bool) (m : Plane2) (r : Bool)

theorem length_pulseTrace :
    (pulseTrace p a d m r).length = 14 + r.toNat + (2 - ((m.getLsbD 0).toNat + (m.getLsbD 1).toNat)) := by
  rw [pulseTrace_eq]
  simp only [driveTrace, releaseTrace, List.length_append, length_eventIf, List.length_cons, List.length_nil]
  cases m.getLsbD 0 <;> cases m.getLsbD 1 <;> simp <;> omega

theorem waitsOf_pulseTrace : waitsOf (pulseTrace p a d m r) = [2, 1, 10, 1, 5, 5] := by
  rw [pulseTrace_eq]
  simp only [driveTrace, releaseTrace, List.append_assoc, List.cons_append, List.nil_append, waitsOf,
    waitsOf_eventIf_lr, waitsOf_eventIf_br]

theorem quantaOf_pulseTrace : quantaOf (pulseTrace p a d m r) = 24 := by
  rw [quantaOf, waitsOf_pulseTrace]
  rfl

/-- The waits while a bridge conducts: Y the 10 of slot 9, X and a driven inhibit bridge also the 1 before and the 1
after (R167). -/
theorem conductionQuanta_pulseTrace (k : Bridge) :
    conductionQuanta k false (pulseTrace p a d m r) =
      match k with
      | .y => 10
      | .x => 12
      | .inh0 => if m.getLsbD 0 then 0 else 12
      | .inh1 => if m.getLsbD 1 then 0 else 12 := by
  rw [pulseTrace_eq]
  simp only [driveTrace, releaseTrace, List.append_assoc, List.cons_append, List.nil_append, conductionQuanta,
    conductionQuanta_eventIf_lr, conductionQuanta_eventIf_br, conducts_xDrive, conducts_yDrive, conducts_inhDrive,
    conducts_noConduction]
  cases k
  case x => simp
  case y => simp
  case inh0 => cases m.getLsbD 0 <;> simp
  case inh1 => cases m.getLsbD 1 <;> simp

end

/-- Settles O49: the trace appended is `pulseTrace`, whose length and waits are known. -/
theorem pulseTraceCounts : Obligations.PulseTraceCounts := by
  intro s w ws a d m r hp hu hr hc hw
  have hlen := length_pulseTrace s.params a d m r
  have hquanta := quantaOf_pulseTrace s.params a d m r
  have hr1 := Bool.toNat_le r
  refine ⟨_, pulseTrace s.params a d m r, runSteps_afterPulse hp hu hc hr hw, rfl, hlen, ?_, ?_, waitsOf_pulseTrace ..,
    hquanta, fun hq => ?_⟩
  · omega
  · omega
  · rw [durationNs, hquanta, hq]

/-- Settles O52: the trace appended is `pulseTrace`, read bridge by bridge. -/
theorem conductionTimes : Obligations.ConductionTimes := by
  intro s w ws a d m r hp hu hr hc hw
  have hk := conductionQuanta_pulseTrace s.params a d m r
  exact ⟨_, pulseTrace s.params a d m r, runSteps_afterPulse hp hu hc hr hw, rfl, hk .y, hk .x, hk .inh0, hk .inh1⟩

end Sys2Proof.Machine

/-! # The slots, one by one (R150 to R162) -/

namespace Sys2Proof.Machine

/-- NC is NCB where OFF_ENC says so, else NCA (R11, D6). -/
theorem noConduction_eq (p : Params) : noConduction p = if p.offEnc = .ncb then .ncb else .nca := by
  cases h : p.offEnc <;> simp [noConduction, h]

/-- A wait slot writes QCNT, the trace and UPC. -/
theorem slot_w (s : State) (i n : Nat) :
    s.slot i (.w n) = { s with qcnt := 0, trace := s.trace ++ [.w n], upc := BitVec.ofNat 5 (i + 1) } := by
  rw [slot_eq, emit_w]

/-- Settles O11: the slots' two events, `AB(ADDR)` and `W(2)`, as record updates. -/
theorem addressBusSlots : Obligations.AddressBusSlots := fun s =>
  ⟨by rw [exec, execS0Ab, slot_eq, emit_ab], 0, by rw [exec, execS1W2, slot_w, tAddr]⟩

/-- Slot 2 in a state whose RL is known. -/
theorem execS2Lrf_of_rl {s : State} {c : Bool} (h : s.rl = c) :
    exec .s2Lrf s = .next (s.slotIf 2 c (.lr false)) := by
  rw [exec, execS2Lrf, h]

/-- Settles O12: in either environment `LR(false)` changes the line, the trace and the sense latch. -/
theorem latchResetSlots : Obligations.LatchResetSlots := by
  refine fun s => ⟨fun hr => ?_, fun hr => ?_, ?_⟩
  · rw [execS2Lrf_of_rl hr, slotIf_true, slot_eq, emit_lr_false_frame]
    exact ⟨_, _, rfl⟩
  · rw [execS2Lrf_of_rl hr, slotIf_false]
  · rw [exec, execS4Lrt, slot_eq, emit_lr_true]

/-- Settles O13: the driven state in bit form is `xDrive_eq`. -/
theorem xDriveSlot : Obligations.XDriveSlot := by
  rintro s v rfl
  rw [exec, execS3Brx, slot_eq, emit_br_x, xDrive_eq]

/-- Settles O14: the driven state in bit form is `inhDrive_eq`. -/
theorem inhibitDriveSlots : Obligations.InhibitDriveSlots := by
  rintro s v rfl
  rw [← inhDrive_eq]
  refine ⟨?_, ?_, 0, ?_⟩
  · rw [exec, execS5Bri0]
    cases s.mask.getLsbD 0 <;> rfl
  · rw [exec, execS6Bri1]
    cases s.mask.getLsbD 1 <;> rfl
  · rw [exec, execS7W1a, slot_w, tInh]

/-- Settles O15: the full-select touches the environment only, and no cell off the bus. -/
theorem yDriveSlots : Obligations.YDriveSlots := by
  refine fun s => ⟨⟨_, execS8Bry_eq s, ?_, ?_⟩, 0, ?_⟩
  · rw [fullSelect_frame]
    rfl
  · obtain ⟨e, hf, -⟩ := slot_frame (i := .s8Bry) rfl (execS8Bry_eq s)
    exact hf.memRead
  · rw [exec, execS9W10, slot_w, tY]

/-- Settles O16: the inert state is `noConduction_eq`. -/
theorem yReleaseSlots : Obligations.YReleaseSlots := by
  rintro s nc rfl
  rw [← noConduction_eq]
  refine ⟨?_, 0, ?_⟩
  · rw [exec, execS10BryOff, slot_eq, emit_br_y_inert _ (conducts_noConduction _)]
  · rw [exec, execS11W1b, slot_w, tYOff]

/-- Settles O17: the three releases are unconditional. -/
theorem inhibitAndXReleaseSlots : Obligations.InhibitAndXReleaseSlots := by
  rintro s nc rfl
  rw [← noConduction_eq]
  refine ⟨?_, ?_, ?_⟩
  · rw [exec, execS12Bri0Off, slot_eq, emit_br_inh0]
  · rw [exec, execS13Bri1Off, slot_eq, emit_br_inh1]
  · rw [exec, execS14BrxOff, slot_eq, emit_br_x]

/-- Settles O18: two wait slots, each with its own event. -/
theorem trailingWaitSlots : Obligations.TrailingWaitSlots := fun s =>
  ⟨⟨0, by rw [exec, execS15W5a, slot_w, tIdleA]⟩, 0, by rw [exec, execS16W5b, slot_w, tIdleB]⟩

end Sys2Proof.Machine

/-! # Acceptance of a command, and the counts of WRITE and READ (R180, R184, R188, R240) -/

namespace Sys2Proof.Machine

/-! ## An idle block accepts, a busy block does not (R180, R203) -/

theorem busy_eq_false_iff {s : State} : s.busy = false ↔ s.phase = .idle := by
  simp [State.busy]

theorem busy_eq_true_iff {s : State} : s.busy = true ↔ s.phase ≠ .idle := by
  simp [State.busy]

/-- Settles O22: the idle block's acceptance, with the host's operands. -/
theorem pulseIsAccepted : Obligations.PulseIsAccepted := by
  intro s a d m r hp
  rw [exec, execPulse, accept_idle (busy_eq_false_iff.2 hp)]

/-- Settles O23: the idle block's acceptance with a value, with the operands of the clear pulse. -/
theorem writeIsAccepted : Obligations.WriteIsAccepted := by
  intro s a v hp
  rw [exec, execWrite, acceptValue_idle (busy_eq_false_iff.2 hp), clearOperands]

/-- Settles O24: the idle block's acceptance, with the operands of the destructive read. -/
theorem readIsAccepted : Obligations.ReadIsAccepted := by
  intro s a hp
  rw [exec, execRead, accept_idle (busy_eq_false_iff.2 hp), destructiveReadOperands]

/-- Settles O25: both forms of acceptance leave a busy block as it is. -/
theorem busyBlockAcceptsNothing : Obligations.BusyBlockAcceptsNothing := by
  intro s a d m v r hp
  have hb : s.busy = true := busy_eq_true_iff.2 hp
  refine ⟨?_, ?_, ?_⟩
  · rw [exec, execPulse, accept_busy hb]
  · rw [exec, execWrite, acceptValue_busy hb]
  · rw [exec, execRead, accept_busy hb]

/-! ## Counts of the whole traces (R184, R188) -/

theorem waitsOf_append (es fs : List Event) : waitsOf (es ++ fs) = waitsOf es ++ waitsOf fs := by
  induction es with
  | nil => rfl
  | cons e es ih => cases e <;> simp [waitsOf, ih]

theorem quantaOf_append (es fs : List Event) : quantaOf (es ++ fs) = quantaOf es + quantaOf fs := by
  change (waitsOf (es ++ fs)).sum = (waitsOf es).sum + (waitsOf fs).sum
  rw [waitsOf_append, List.sum_append]

section
variable (p : Params) (a : Addr) (v : Plane2)

/-- The clear pulse drives no inhibit bridge and has no `LR(false)`, so 14 events; the set pulse drives one for each plane
of the value that is 0. -/
theorem length_writeTrace :
    (writeTrace p a v).length = 28 + (2 - ((v.getLsbD 0).toNat + (v.getLsbD 1).toNat)) := by
  rw [writeTrace, List.length_append, length_pulseTrace, length_pulseTrace]
  change 14 + (14 + _) = 28 + _
  omega

theorem quantaOf_writeTrace : quantaOf (writeTrace p a v) = 48 := by
  rw [writeTrace, quantaOf_append, quantaOf_pulseTrace, quantaOf_pulseTrace]

/-- The destructive read adds its `LR(false)` to the clear pulse's 14 events, and the sample is one more. -/
theorem length_readTrace :
    (readTrace p a v).length = 30 + (2 - ((v.getLsbD 0).toNat + (v.getLsbD 1).toNat)) := by
  rw [readTrace, List.length_append, List.length_append, length_pulseTrace, length_pulseTrace]
  change 15 + 1 + (14 + _) = 30 + _
  omega

theorem quantaOf_readTrace : quantaOf (readTrace p a v) = 48 := by
  rw [readTrace, quantaOf_append, quantaOf_append, quantaOf_pulseTrace, quantaOf_pulseTrace]
  rfl

end

/-- The duration both operations share (R240). -/
theorem durationNs_of_quantaOf {p : Params} {es : List Event} (h : quantaOf es = 48) (hq : p.quantumNs = 100) :
    durationNs p es = 4800 := by
  rw [durationNs, h, hq]

/-- Settles O50: a WRITE run to its end appends `writeTrace`. -/
theorem writeTraceCounts : Obligations.WriteTraceCounts := by
  intro s w ws a v hp hu hr hc hw
  obtain ⟨t, hrun, htrace, -⟩ := writeCommandRunsToEnd s w ws a v hp hu hr hc hw
  have hquanta := quantaOf_writeTrace s.params a v
  exact ⟨t, _, hrun, htrace, length_writeTrace .., hquanta, durationNs_of_quantaOf hquanta⟩

/-- Settles O51: a READ run to its end appends the `readTrace` of the pair it delivers. -/
theorem readTraceCounts : Obligations.ReadTraceCounts := by
  intro s w ws a hp hu hr hc hw
  obtain ⟨t, v, hrun, htrace, -, -, -, -, -, -, -, -, -, hrdata, -⟩ := readCommandRunsToEnd s w ws a hp hu hr hc hw
  have hquanta := quantaOf_readTrace s.params a v
  refine ⟨t, _, hrun, htrace, ?_, hquanta, durationNs_of_quantaOf hquanta⟩
  rw [hrdata, length_readTrace]

end Sys2Proof.Machine

/-! # The parameters are fixed before execution (93_implementation_defined, log entry 7) -/

namespace Sys2Proof.Machine

/-- Settles O40: no record update among a step's cases writes the parameters, and a slot's event keeps them by its frame. -/
theorem parametersNeverChange : Obligations.ParametersNeverChange := by
  intro s t hstep
  rcases step_inversion hstep with
    ⟨-, rfl⟩ | ⟨-, -, ⟨-, rfl⟩ | ⟨-, -, rfl⟩ | ⟨hp, w, ws, -, he⟩ | ⟨-, i, hi, he⟩ | ⟨-, he⟩⟩
  · rfl
  · rfl
  · obtain ⟨d, m, r, rd, ph, dn, u, heq, -⟩ := endPulse_frame s.clockIn
    rw [heq, State.clockIn_params]
  · obtain ⟨op, a, o, v, rfl, -⟩ := decodeCmd_exec (by exact hp) he
    rfl
  · obtain ⟨e, hf, -⟩ := slot_frame hi he
    exact hf.params
  · cases (execSs_eq s.clockIn).symm.trans he
    rfl

end Sys2Proof.Machine
